-- ==== Sys2Proof/Word.lean ====
section
/-! DEFINITION. The word types of the block (00_scope R21, R30): every register is 32 bits, a character is 8 bits. -/

namespace Sys2Proof

/-- A register value, an address or an operand: 32 bits, unsigned (R21, R30). -/
abbrev Word := BitVec 32

/-- A received or transmitted character, or one byte of RAM (R21, R112). -/
abbrev Byte := BitVec 8

end Sys2Proof
end

