-- ==== Sys2Proof/Config.lean ====
section
/-! DEFINITION. The parameters of 00_scope R20, the turns of the agents of R5 and the free values (draws) of R33. -/

namespace Sys2Proof.Config

/-! ### Parameters that R20 fixes -/

/-- `P_GPIO_PINS`: pins 0..53. -/
def gpioPins : Nat := 54
/-- `P_PUD_HOLD`: the pull setup and hold time in core cycles. -/
def pudHold : Nat := 150
/-- `P_TIMER_CHANNEL`: the compare channel the block uses. -/
def timerChannel : Nat := 1
/-- `P_PERIOD_US`: the fixed rearm step of the periodic interrupt. -/
def periodUs : Word := 10000#32
/-- `P_BAUD`: the rate of the serial peer. -/
def baud : Nat := 115200
/-- `P_UART_IMSC_INIT`: RXIM and RTIM. -/
def uartImscInit : Word := 0x050#32
/-- `P_UART_TX_PIN`. -/
def uartTxPin : Fin 54 := 14
/-- `P_UART_RX_PIN`. -/
def uartRxPin : Fin 54 := 15
/-- `P_UART_ALT`: ALT0. -/
def uartAlt : BitVec 3 := 0b100#3
/-- `P_UART_FIFO_DEPTH`. -/
def uartFifoDepth : Nat := 16
/-- `P_MBOX_CHANNEL`: the property channel. -/
def mboxChannel : BitVec 4 := 8#4
/-- `P_BUS_MASK` (20_memory R230). -/
def busMask : Word := 0x3FFFFFFF#32

/-! ### Parameters that R20 leaves open -/

/-- The OPEN parameters of R20: an argument of the model, held in the state and changed by no step. -/
structure Params where
  /-- `P_PERIPH_BASE`. -/
  periphBase : Word
  /-- `P_UART_CLK_HZ`. -/
  uartClkHz : Nat
  /-- `P_BAUD_TOL_PERMILLE`. -/
  baudTolPermille : Nat
  /-- `P_MBOX_DEPTH`. -/
  mboxDepth : Nat
  /-- `P_BUS_ALIAS`. -/
  busAlias : Word
  /-- `P_MBOX_BUF`. -/
  mboxBuf : Word
  /-- `P_FB_WIDTH`. -/
  fbWidth : Word
  /-- `P_FB_HEIGHT`. -/
  fbHeight : Word
  /-- `P_FB_DEPTH`. -/
  fbDepth : Word
  /-- `P_VT_ADDR`. -/
  vtAddr : Word
  /-- `P_PENDING_MASKED`. -/
  pendingMasked : Bool
  deriving DecidableEq, Repr

/-- The values R20 allows: two peripheral bases, two UART clocks, two bus aliases, an aligned buffer below
0x40000000 and an aligned vector table. -/
def Params.wf (p : Params) : Bool :=
  (p.periphBase == 0x20000000#32 || p.periphBase == 0x3F000000#32) &&
  (p.uartClkHz == 48000000 || p.uartClkHz == 3000000) &&
  (p.busAlias == 0x40000000#32 || p.busAlias == 0xC0000000#32) &&
  p.mboxBuf.toNat % 16 == 0 && p.mboxBuf.toNat < 0x40000000 &&
  p.vtAddr.toNat % 32 == 0

/-- The reference values of R20 and 95_test_vectors. `P_PENDING_MASKED` has no reference: true is a
DESIGN CHOICE (log 3). -/
def Params.reference : Params where
  periphBase := 0x3F000000#32
  uartClkHz := 48000000
  baudTolPermille := 25
  mboxDepth := 8
  busAlias := 0xC0000000#32
  mboxBuf := 0x00100000#32
  fbWidth := 640#32
  fbHeight := 480#32
  fbDepth := 32#32
  vtAddr := 0x00008000#32
  pendingMasked := true

/-! ### The agents' turns -/

/-- Who moves in a step (R5), with the free inputs (R33) that the move draws. -/
inductive Turn where
  /-- The CPU runs the head of its continuation (40 R400). -/
  | cpu
  /-- The CPU takes the IRQ, if entry is enabled (60 R1020). -/
  | irqEntry
  /-- One microsecond passes (43 R710). -/
  | timer
  /-- A byte leaves the TX FIFO; `garbled` is what a bad line delivers instead (45 R960). -/
  | uartTx (garbled : List Byte)
  /-- The peer sends `good`; a bad line delivers `bad` with error bits `fe`, `pe`, `be` instead (45 R961). -/
  | uartRx (good bad : Byte) (fe pe be : Bool)
  /-- The receive timeout (45 R963). -/
  | uartTimeout
  /-- The CTS interrupt bit takes the value `v` (45 R964, D57, U31; log 15). -/
  | uartCts (v : Bool)
  /-- The TX interrupt bit takes the value `v` (45 R964). -/
  | uartTxBit (v : Bool)
  /-- The GPU takes a request (42 R640 a). -/
  | gpuTake
  /-- The GPU answers: it writes `words` (word index, value) of the buffer and pushes `r` (42 R640 b, R643). -/
  | gpuRespond (words : List (Nat × Word)) (r : Word)
  /-- The GPU pushes a word of another channel (42 R642). -/
  | gpuSpurious (r : Word)
  /-- The GPU writes compare channel 2 (`two`) or 0 (43 R712). -/
  | gpuCompare (two : Bool) (v : Word)
  /-- The GPU clears match flag 2 (`two`) or 0 (43 R712). -/
  | gpuClearMatch (two : Bool)
  deriving DecidableEq, Repr, Inhabited

/-! ### Free values (R33): no body, so no proof can see them -/

/-- Who moves at step `n` when `State.sched` names nobody (R5; log 7). -/
opaque turn : Nat → Turn
/-- The 32-bit draw of index `n` (log 8): reserved bits, reads of write-only registers, undriven pins and the rest of R33. -/
opaque draw : Nat → Word
/-- The cycles a CPU step takes above its minimum (10 R104; log 8). -/
opaque extraCycles : Nat → Nat
/-- The levels of the GPU interrupt sources outside the block (10 R113; log 8). -/
opaque outsideGpuIrq : Nat → BitVec 64
/-- The levels of the ARM basic interrupt sources (10 R113; log 8). -/
opaque armIrq : Nat → BitVec 8
/-- The byte of RAM at an address at entry, outside the request image (10 R112; log 12). -/
opaque ramAtEntry : Nat → Byte
/-- What an expression reads from local `x` when it holds no 32-bit value (30 R340; log 6). -/
opaque unboundLocal : Nat → Nat → Word
/-- The receive trigger level of a reserved RXIFLSEL code, which only the entry draw can hold (45 R901; log 2). -/
opaque reservedTrigger : BitVec 3 → Nat
/-- The pull that a pad samples, at draw index `n`, from a pull control of 3, which only the entry draw can hold (41 R516;
log 2). -/
opaque reservedPull : Nat → BitVec 2
/-- The quotient by zero, which no rule states (00 R30; log 6). -/
opaque divByZero : Word → Word
/-- The remainder by zero, which no rule states (00 R30; log 6). -/
opaque modByZero : Word → Word

end Sys2Proof.Config
end

