-- ==== Sys2Proof/Syntax.lean ====
section
/-! DEFINITION. The syntax of 30_encoding: expressions, result destinations, handlers, and one constructor of `Instr`
for every row of spec/opcode_table.json (R340, R341, 40 R403). -/

namespace Sys2Proof

/-- The binary operators of 00_scope R30 on 32-bit words. -/
inductive BinOp where
  | add | sub | mul | div | mod | shl | shr | and | or | xor
  deriving DecidableEq, Repr, Inhabited

/-- `<expr>` of R340: a literal, a local of the program, and the operators of R30. The grammar of expressions
is the model's, DESIGN CHOICE (log 6). -/
inductive Expr where
  /-- A 32-bit literal. -/
  | lit (v : Word)
  /-- The local number `x` (a local of a read bound to a name, R340). -/
  | loc (x : Nat)
  /-- `~a`. -/
  | not (a : Expr)
  /-- `a op b`. -/
  | bin (op : BinOp) (a b : Expr)
  /-- `c ? a : b`. -/
  | ite (c a b : Expr)
  /-- `a[hi:lo]`. -/
  | slice (hi lo : Nat) (a : Expr)
  deriving DecidableEq, Repr, Inhabited

/-- Where the result of a driver operation goes (10_state R100, R101). -/
inductive Ret where
  /-- The local `x` of the code that wrote `x <- name(…)` (R340). -/
  | loc (x : Nat)
  /-- The drain loop of 44 R871, which calls `uart_getc_nb`. -/
  | drain
  deriving DecidableEq, Repr, Inhabited

/-- Where the value of a read primitive goes: to a result, or, inside the expansion of a driver operation, to the point
of the expansion that waits for it, with the locals that point holds (10_state R100, R102: the control flow of an
expansion "is evaluated as the locals become known, and has no cost"). -/
inductive Dest where
  /-- The value is a result. -/
  | ret (r : Ret)
  /-- The value is not used (`b` of 44 R870). -/
  | ignore
  /-- `gpio_set_function(p, f)` after its read (41 R540). -/
  | fselModify (p f : Nat)
  /-- `gpio_get_input` after its read; `b` is the bit (41 R542). -/
  | levelBit (b : Nat) (r : Ret)
  /-- `mbox_call`: outbound not full? (42 R650). -/
  | mboxOutStatus (r : Ret)
  /-- `mbox_call`: inbound not empty? -/
  | mboxInStatus (r : Ret)
  /-- `mbox_call`: the word read from the mailbox. -/
  | mboxReply (r : Ret)
  /-- `mbox_call`: the response code. -/
  | mboxCode (r : Ret)
  /-- `mbox_call`: word 19. -/
  | mboxBase (r : Ret)
  /-- `mbox_call`: word 5. -/
  | mboxWidth (r : Ret) (base : Word)
  /-- `mbox_call`: word 6. -/
  | mboxHeight (r : Ret) (base width : Word)
  /-- `mbox_call`: word 20. -/
  | mboxSize (r : Ret) (base width height : Word)
  /-- `mbox_call`: word 24. -/
  | mboxPitch (r : Ret) (base width height size : Word)
  /-- `timer_now_us64`: `hi` (43 R731). -/
  | now64Hi (r : Ret)
  /-- `timer_now_us64`: `lo`. -/
  | now64Lo (r : Ret) (hi : Word)
  /-- `timer_now_us64`: `hi2`. -/
  | now64Hi2 (r : Ret) (hi lo : Word)
  /-- `timer_sleep_us(us)`: `start` (43 R732). -/
  | sleepStart (us : Word)
  /-- `timer_sleep_us`: phase 1. -/
  | sleepWrap (start target : Word)
  /-- `timer_sleep_us`: phase 2. -/
  | sleepUntil (target : Word)
  /-- `timer_arm_periodic(ms)`: `now` (43 R734). -/
  | armNow (ms : Word)
  /-- `timer_on_interrupt`: `now` (43 R735). -/
  | rearm
  /-- `handle_irq`: `p1` (44 R870). -/
  | irqPending1
  /-- `handle_irq`: `p2`. -/
  | irqPending2 (p1 : Word)
  /-- `uart_putc(c)`: transmit FIFO not full? (45 R941). -/
  | putcReady (c : Byte)
  /-- `uart_getc`: receive FIFO not empty? (45 R943). -/
  | getcReady (r : Ret)
  /-- `uart_getc`: the data read. -/
  | getcByte (r : Ret)
  /-- `uart_getc_nb`: the flags (45 R944). -/
  | getcNbFlag (r : Ret)
  /-- `uart_getc_nb`: the data read. -/
  | getcNbByte (r : Ret)
  deriving DecidableEq, Repr, Inhabited

/-- An input handler: "a map from a byte to a finite list of operations of this spec" (44 R872). The operations are held
in encoded form; row `c` of the table is what byte `c` runs, and a byte with no row runs nothing (log 17). -/
inductive Handler where
  /-- The default handler `echo` (`P_INPUT_HANDLER`, 45 R945). -/
  | echo
  /-- A handler of the consumer. -/
  | table (rows : List (List Word))
  deriving DecidableEq, Repr, Inhabited

/-- The instructions: one constructor per row of spec/opcode_table.json. A read `x <- RD32 R` names where its value goes; a
write `WR32 R, v` carries the expression of its value; natural operands are literals; u32, u8 and bool operands are
expressions (R340; log 5, 6, 20). -/
inductive Instr where
  /-- `RD32 GPFSEL0` (key 0x00200000, R503). -/
  | rd32Gpfsel0 (d : Dest)
  /-- `RD32 GPFSEL1` (key 0x00200004, R504). -/
  | rd32Gpfsel1 (d : Dest)
  /-- `RD32 GPFSEL2` (key 0x00200008, R505). -/
  | rd32Gpfsel2 (d : Dest)
  /-- `RD32 GPFSEL3` (key 0x0020000C, R506). -/
  | rd32Gpfsel3 (d : Dest)
  /-- `RD32 GPFSEL4` (key 0x00200010, R507). -/
  | rd32Gpfsel4 (d : Dest)
  /-- `RD32 GPFSEL5` (key 0x00200014, R508). -/
  | rd32Gpfsel5 (d : Dest)
  /-- `WR32 GPFSEL0` (key 0x01200000, R509). -/
  | wr32Gpfsel0 (v : Expr)
  /-- `WR32 GPFSEL1` (key 0x01200004, R510). -/
  | wr32Gpfsel1 (v : Expr)
  /-- `WR32 GPFSEL2` (key 0x01200008, R511). -/
  | wr32Gpfsel2 (v : Expr)
  /-- `WR32 GPFSEL3` (key 0x0120000C, R512). -/
  | wr32Gpfsel3 (v : Expr)
  /-- `WR32 GPFSEL4` (key 0x01200010, R513). -/
  | wr32Gpfsel4 (v : Expr)
  /-- `WR32 GPFSEL5` (key 0x01200014, R514). -/
  | wr32Gpfsel5 (v : Expr)
  /-- `RD32 GPPUD` (key 0x00200094, R515). -/
  | rd32Gppud (d : Dest)
  /-- `WR32 GPPUD` (key 0x01200094, R517). -/
  | wr32Gppud (v : Expr)
  /-- `RD32 GPPUDCLK0` (key 0x00200098, R518). -/
  | rd32Gppudclk0 (d : Dest)
  /-- `RD32 GPPUDCLK1` (key 0x0020009C, R519). -/
  | rd32Gppudclk1 (d : Dest)
  /-- `WR32 GPPUDCLK0` (key 0x01200098, R521). -/
  | wr32Gppudclk0 (v : Expr)
  /-- `WR32 GPPUDCLK1` (key 0x0120009C, R522). -/
  | wr32Gppudclk1 (v : Expr)
  /-- `WR32 GPSET0` (key 0x0120001C, R523). -/
  | wr32Gpset0 (v : Expr)
  /-- `WR32 GPSET1` (key 0x01200020, R524). -/
  | wr32Gpset1 (v : Expr)
  /-- `WR32 GPCLR0` (key 0x01200028, R525). -/
  | wr32Gpclr0 (v : Expr)
  /-- `WR32 GPCLR1` (key 0x0120002C, R526). -/
  | wr32Gpclr1 (v : Expr)
  /-- `RD32 GPLEV0` (key 0x00200034, R527). -/
  | rd32Gplev0 (d : Dest)
  /-- `RD32 GPLEV1` (key 0x00200038, R528). -/
  | rd32Gplev1 (d : Dest)
  /-- `RD32 GPSET0` (key 0x0020001C, R406). -/
  | rd32Gpset0 (d : Dest)
  /-- `RD32 GPSET1` (key 0x00200020, R406). -/
  | rd32Gpset1 (d : Dest)
  /-- `RD32 GPCLR0` (key 0x00200028, R406). -/
  | rd32Gpclr0 (d : Dest)
  /-- `RD32 GPCLR1` (key 0x0020002C, R406). -/
  | rd32Gpclr1 (d : Dest)
  /-- `WR32 GPLEV0` (key 0x01200034, R405). -/
  | wr32Gplev0 (v : Expr)
  /-- `WR32 GPLEV1` (key 0x01200038, R405). -/
  | wr32Gplev1 (v : Expr)
  /-- `RD32 ST_CS` (key 0x00003000, R701). -/
  | rd32StCs (d : Dest)
  /-- `WR32 ST_CS` (key 0x01003000, R702). -/
  | wr32StCs (v : Expr)
  /-- `RD32 ST_CLO` (key 0x00003004, R703). -/
  | rd32StClo (d : Dest)
  /-- `RD32 ST_CHI` (key 0x00003008, R704). -/
  | rd32StChi (d : Dest)
  /-- `RD32 ST_C0` (key 0x0000300C, R705). -/
  | rd32StC0 (d : Dest)
  /-- `RD32 ST_C1` (key 0x00003010, R706). -/
  | rd32StC1 (d : Dest)
  /-- `RD32 ST_C2` (key 0x00003014, R707). -/
  | rd32StC2 (d : Dest)
  /-- `RD32 ST_C3` (key 0x00003018, R708). -/
  | rd32StC3 (d : Dest)
  /-- `WR32 ST_C0` (key 0x0100300C, R715). -/
  | wr32StC0 (v : Expr)
  /-- `WR32 ST_C1` (key 0x01003010, R716). -/
  | wr32StC1 (v : Expr)
  /-- `WR32 ST_C2` (key 0x01003014, R717). -/
  | wr32StC2 (v : Expr)
  /-- `WR32 ST_C3` (key 0x01003018, R718). -/
  | wr32StC3 (v : Expr)
  /-- `WR32 ST_CLO` (key 0x01003004, R405). -/
  | wr32StClo (v : Expr)
  /-- `WR32 ST_CHI` (key 0x01003008, R405). -/
  | wr32StChi (v : Expr)
  /-- `RD32 IRQ_BASIC_PENDING` (key 0x0000B200, R804). -/
  | rd32IrqBasicPending (d : Dest)
  /-- `RD32 IRQ_PENDING1` (key 0x0000B204, R805). -/
  | rd32IrqPending1 (d : Dest)
  /-- `RD32 IRQ_PENDING2` (key 0x0000B208, R806). -/
  | rd32IrqPending2 (d : Dest)
  /-- `RD32 FIQ_CONTROL` (key 0x0000B20C, R807). -/
  | rd32FiqControl (d : Dest)
  /-- `WR32 FIQ_CONTROL` (key 0x0100B20C, R808). -/
  | wr32FiqControl (v : Expr)
  /-- `RD32 ENABLE_IRQS1` (key 0x0000B210, R809). -/
  | rd32EnableIrqs1 (d : Dest)
  /-- `WR32 ENABLE_IRQS1` (key 0x0100B210, R812). -/
  | wr32EnableIrqs1 (v : Expr)
  /-- `RD32 ENABLE_IRQS2` (key 0x0000B214, R810). -/
  | rd32EnableIrqs2 (d : Dest)
  /-- `WR32 ENABLE_IRQS2` (key 0x0100B214, R813). -/
  | wr32EnableIrqs2 (v : Expr)
  /-- `RD32 ENABLE_BASIC` (key 0x0000B218, R811). -/
  | rd32EnableBasic (d : Dest)
  /-- `WR32 ENABLE_BASIC` (key 0x0100B218, R814). -/
  | wr32EnableBasic (v : Expr)
  /-- `RD32 DISABLE_IRQS1` (key 0x0000B21C, R815). -/
  | rd32DisableIrqs1 (d : Dest)
  /-- `WR32 DISABLE_IRQS1` (key 0x0100B21C, R818). -/
  | wr32DisableIrqs1 (v : Expr)
  /-- `RD32 DISABLE_IRQS2` (key 0x0000B220, R816). -/
  | rd32DisableIrqs2 (d : Dest)
  /-- `WR32 DISABLE_IRQS2` (key 0x0100B220, R819). -/
  | wr32DisableIrqs2 (v : Expr)
  /-- `RD32 DISABLE_BASIC` (key 0x0000B224, R817). -/
  | rd32DisableBasic (d : Dest)
  /-- `WR32 DISABLE_BASIC` (key 0x0100B224, R820). -/
  | wr32DisableBasic (v : Expr)
  /-- `WR32 IRQ_BASIC_PENDING` (key 0x0100B200, R405). -/
  | wr32IrqBasicPending (v : Expr)
  /-- `WR32 IRQ_PENDING1` (key 0x0100B204, R405). -/
  | wr32IrqPending1 (v : Expr)
  /-- `WR32 IRQ_PENDING2` (key 0x0100B208, R405). -/
  | wr32IrqPending2 (v : Expr)
  /-- `RD32 MBOX0_READ` (key 0x0000B880, R600). -/
  | rd32Mbox0Read (d : Dest)
  /-- `RD32 MBOX0_PEEK` (key 0x0000B890, R601). -/
  | rd32Mbox0Peek (d : Dest)
  /-- `RD32 MBOX0_STATUS` (key 0x0000B898, R602). -/
  | rd32Mbox0Status (d : Dest)
  /-- `RD32 MBOX1_STATUS` (key 0x0000B8B8, R603). -/
  | rd32Mbox1Status (d : Dest)
  /-- `WR32 MBOX1_WRITE` (key 0x0100B8A0, R604). -/
  | wr32Mbox1Write (v : Expr)
  /-- `WR32 MBOX0_READ` (key 0x0100B880, R405). -/
  | wr32Mbox0Read (v : Expr)
  /-- `WR32 MBOX0_PEEK` (key 0x0100B890, R405). -/
  | wr32Mbox0Peek (v : Expr)
  /-- `WR32 MBOX0_STATUS` (key 0x0100B898, R405). -/
  | wr32Mbox0Status (v : Expr)
  /-- `WR32 MBOX1_STATUS` (key 0x0100B8B8, R405). -/
  | wr32Mbox1Status (v : Expr)
  /-- `RD32 MBOX1_WRITE` (key 0x0000B8A0, R406). -/
  | rd32Mbox1Write (d : Dest)
  /-- `RD32 UART_DR` (key 0x00201000, R902). -/
  | rd32UartDr (d : Dest)
  /-- `WR32 UART_DR` (key 0x01201000, R903). -/
  | wr32UartDr (v : Expr)
  /-- `RD32 UART_RSRECR` (key 0x00201004, R904). -/
  | rd32UartRsrecr (d : Dest)
  /-- `WR32 UART_RSRECR` (key 0x01201004, R905). -/
  | wr32UartRsrecr (v : Expr)
  /-- `RD32 UART_FR` (key 0x00201018, R906). -/
  | rd32UartFr (d : Dest)
  /-- `RD32 UART_IBRD` (key 0x00201024, R907). -/
  | rd32UartIbrd (d : Dest)
  /-- `WR32 UART_IBRD` (key 0x01201024, R908). -/
  | wr32UartIbrd (v : Expr)
  /-- `RD32 UART_FBRD` (key 0x00201028, R909). -/
  | rd32UartFbrd (d : Dest)
  /-- `WR32 UART_FBRD` (key 0x01201028, R910). -/
  | wr32UartFbrd (v : Expr)
  /-- `RD32 UART_LCRH` (key 0x0020102C, R914). -/
  | rd32UartLcrh (d : Dest)
  /-- `WR32 UART_LCRH` (key 0x0120102C, R912). -/
  | wr32UartLcrh (v : Expr)
  /-- `RD32 UART_CR` (key 0x00201030, R916). -/
  | rd32UartCr (d : Dest)
  /-- `WR32 UART_CR` (key 0x01201030, R917). -/
  | wr32UartCr (v : Expr)
  /-- `RD32 UART_IFLS` (key 0x00201034, R918). -/
  | rd32UartIfls (d : Dest)
  /-- `WR32 UART_IFLS` (key 0x01201034, R919). -/
  | wr32UartIfls (v : Expr)
  /-- `RD32 UART_IMSC` (key 0x00201038, R920). -/
  | rd32UartImsc (d : Dest)
  /-- `WR32 UART_IMSC` (key 0x01201038, R921). -/
  | wr32UartImsc (v : Expr)
  /-- `RD32 UART_RIS` (key 0x0020103C, R922). -/
  | rd32UartRis (d : Dest)
  /-- `RD32 UART_MIS` (key 0x00201040, R923). -/
  | rd32UartMis (d : Dest)
  /-- `WR32 UART_ICR` (key 0x01201044, R911). -/
  | wr32UartIcr (v : Expr)
  /-- `WR32 UART_FR` (key 0x01201018, R405). -/
  | wr32UartFr (v : Expr)
  /-- `WR32 UART_RIS` (key 0x0120103C, R405). -/
  | wr32UartRis (v : Expr)
  /-- `WR32 UART_MIS` (key 0x01201040, R405). -/
  | wr32UartMis (v : Expr)
  /-- `RD32 UART_ICR` (key 0x00201044, R406). -/
  | rd32UartIcr (d : Dest)
  /-- `DMB` (key 0x80000100, R420). -/
  | dmb
  /-- `SETVBAR` (key 0x80000200, R421). -/
  | setvbar (a : Expr)
  /-- `CPSIE` (key 0x80000300, R422). -/
  | cpsie
  /-- `CPSID` (key 0x80000400, R423). -/
  | cpsid
  /-- `SPIN` (key 0x80000500, R424). -/
  | spin (n : Nat)
  /-- `IRET` (key 0x80000600, R425). -/
  | iret
  /-- `LDW` (key 0x80000700, R410). -/
  | ldw (a : Expr) (d : Dest)
  /-- `STW` (key 0x80000800, R411). -/
  | stw (a v : Expr)
  /-- `gpio_set_function` (key 0x40001000, R540). -/
  | gpioSetFunction (p f : Nat)
  /-- `gpio_set_output` (key 0x40001100, R541). -/
  | gpioSetOutput (p : Nat) (level : Expr)
  /-- `gpio_get_input` (key 0x40001200, R542). -/
  | gpioGetInput (p : Nat) (r : Ret)
  /-- `gpio_set_pull` (key 0x40001300, R543). -/
  | gpioSetPull (p mode : Nat)
  /-- `mbox_call` (key 0x40002000, R650). -/
  | mboxCall (r : Ret)
  /-- `get_display_surface` (key 0x40002100, R652). -/
  | getDisplaySurface (r : Ret)
  /-- `timer_now_us` (key 0x40003000, R730). -/
  | timerNowUs (r : Ret)
  /-- `timer_now_us64` (key 0x40003100, R731). -/
  | timerNowUs64 (r : Ret)
  /-- `timer_sleep_us` (key 0x40003200, R732). -/
  | timerSleepUs (us : Expr)
  /-- `timer_sleep_ms` (key 0x40003300, R733). -/
  | timerSleepMs (ms : Expr)
  /-- `timer_arm_periodic` (key 0x40003400, R734). -/
  | timerArmPeriodic (ms : Expr)
  /-- `timer_on_interrupt` (key 0x40003500, R735). -/
  | timerOnInterrupt
  /-- `ticks_ms` (key 0x40003600, R736). -/
  | ticksMs (r : Ret)
  /-- `irq_install` (key 0x40004000, R860). -/
  | irqInstall
  /-- `handle_irq` (key 0x40004100, R870). -/
  | handleIrq
  /-- `uart_drain` (key 0x40004200, R871). -/
  | uartDrain
  /-- `install_input_handler` (key 0x40004300, R872). -/
  | installInputHandler (h : Handler)
  /-- `uart_init` (key 0x40005000, R940). -/
  | uartInit (baud : Option Expr)
  /-- `uart_putc` (key 0x40005100, R941). -/
  | uartPutc (c : Expr)
  /-- `uart_puts` (key 0x40005200, R942). -/
  | uartPuts (bytes : List Byte)
  /-- `uart_getc` (key 0x40005300, R943). -/
  | uartGetc (r : Ret)
  /-- `uart_getc_nb` (key 0x40005400, R944). -/
  | uartGetcNb (r : Ret)
  /-- `echo` (key 0x40005500, R945). -/
  | echo (c : Expr)
  /-- `uart_putdec` (key 0x40005600, R946). -/
  | uartPutdec (v : Expr)
  /-- `uart_puthex` (key 0x40005700, R947). -/
  | uartPuthex (v : Expr)
  deriving DecidableEq, Repr, Inhabited

end Sys2Proof
end

