-- ==== Sys2Proof/WellFormed.lean ====
section
/-! DEFINITION. Well-formed instructions: what the grammar of 30_encoding R340 and the operand lines of 41_gpio R540 and R543
admit in a program. A result of a program's line goes to a local; the resumption points of expansions are no program text. -/

namespace Sys2Proof

/-- A slice `a[hi:lo]` of a 32-bit word names bits `lo ≤ hi ≤ 31` (R30). -/
def Expr.wf : Expr → Bool
  | .lit _ => true
  | .loc _ => true
  | .not a => a.wf
  | .bin _ a b => a.wf && b.wf
  | .ite c a b => c.wf && a.wf && b.wf
  | .slice hi lo a => decide (lo ≤ hi) && decide (hi ≤ 31) && a.wf

/-- In a program a result is bound to a local (R340). -/
def Ret.wf : Ret → Bool
  | .loc _ => true
  | .drain => false

/-- In a program the value of a read is a result. -/
def Dest.wf : Dest → Bool
  | .ret r => r.wf
  | _ => false

/-- A handler maps the 256 bytes (44 R872). -/
def Handler.wf : Handler → Bool
  | .echo => true
  | .table rows => decide (rows.length ≤ 256)

/-- The grammar's check of an instruction, row by row: `f` in 0..7 (41 R540), `mode` in 0..2 (41 R543), well-formed
destinations, expressions and handlers. -/
def Instr.wf : Instr → Bool
  | .rd32Gpfsel0 d => d.wf
  | .rd32Gpfsel1 d => d.wf
  | .rd32Gpfsel2 d => d.wf
  | .rd32Gpfsel3 d => d.wf
  | .rd32Gpfsel4 d => d.wf
  | .rd32Gpfsel5 d => d.wf
  | .wr32Gpfsel0 v => v.wf
  | .wr32Gpfsel1 v => v.wf
  | .wr32Gpfsel2 v => v.wf
  | .wr32Gpfsel3 v => v.wf
  | .wr32Gpfsel4 v => v.wf
  | .wr32Gpfsel5 v => v.wf
  | .rd32Gppud d => d.wf
  | .wr32Gppud v => v.wf
  | .rd32Gppudclk0 d => d.wf
  | .rd32Gppudclk1 d => d.wf
  | .wr32Gppudclk0 v => v.wf
  | .wr32Gppudclk1 v => v.wf
  | .wr32Gpset0 v => v.wf
  | .wr32Gpset1 v => v.wf
  | .wr32Gpclr0 v => v.wf
  | .wr32Gpclr1 v => v.wf
  | .rd32Gplev0 d => d.wf
  | .rd32Gplev1 d => d.wf
  | .rd32Gpset0 d => d.wf
  | .rd32Gpset1 d => d.wf
  | .rd32Gpclr0 d => d.wf
  | .rd32Gpclr1 d => d.wf
  | .wr32Gplev0 v => v.wf
  | .wr32Gplev1 v => v.wf
  | .rd32StCs d => d.wf
  | .wr32StCs v => v.wf
  | .rd32StClo d => d.wf
  | .rd32StChi d => d.wf
  | .rd32StC0 d => d.wf
  | .rd32StC1 d => d.wf
  | .rd32StC2 d => d.wf
  | .rd32StC3 d => d.wf
  | .wr32StC0 v => v.wf
  | .wr32StC1 v => v.wf
  | .wr32StC2 v => v.wf
  | .wr32StC3 v => v.wf
  | .wr32StClo v => v.wf
  | .wr32StChi v => v.wf
  | .rd32IrqBasicPending d => d.wf
  | .rd32IrqPending1 d => d.wf
  | .rd32IrqPending2 d => d.wf
  | .rd32FiqControl d => d.wf
  | .wr32FiqControl v => v.wf
  | .rd32EnableIrqs1 d => d.wf
  | .wr32EnableIrqs1 v => v.wf
  | .rd32EnableIrqs2 d => d.wf
  | .wr32EnableIrqs2 v => v.wf
  | .rd32EnableBasic d => d.wf
  | .wr32EnableBasic v => v.wf
  | .rd32DisableIrqs1 d => d.wf
  | .wr32DisableIrqs1 v => v.wf
  | .rd32DisableIrqs2 d => d.wf
  | .wr32DisableIrqs2 v => v.wf
  | .rd32DisableBasic d => d.wf
  | .wr32DisableBasic v => v.wf
  | .wr32IrqBasicPending v => v.wf
  | .wr32IrqPending1 v => v.wf
  | .wr32IrqPending2 v => v.wf
  | .rd32Mbox0Read d => d.wf
  | .rd32Mbox0Peek d => d.wf
  | .rd32Mbox0Status d => d.wf
  | .rd32Mbox1Status d => d.wf
  | .wr32Mbox1Write v => v.wf
  | .wr32Mbox0Read v => v.wf
  | .wr32Mbox0Peek v => v.wf
  | .wr32Mbox0Status v => v.wf
  | .wr32Mbox1Status v => v.wf
  | .rd32Mbox1Write d => d.wf
  | .rd32UartDr d => d.wf
  | .wr32UartDr v => v.wf
  | .rd32UartRsrecr d => d.wf
  | .wr32UartRsrecr v => v.wf
  | .rd32UartFr d => d.wf
  | .rd32UartIbrd d => d.wf
  | .wr32UartIbrd v => v.wf
  | .rd32UartFbrd d => d.wf
  | .wr32UartFbrd v => v.wf
  | .rd32UartLcrh d => d.wf
  | .wr32UartLcrh v => v.wf
  | .rd32UartCr d => d.wf
  | .wr32UartCr v => v.wf
  | .rd32UartIfls d => d.wf
  | .wr32UartIfls v => v.wf
  | .rd32UartImsc d => d.wf
  | .wr32UartImsc v => v.wf
  | .rd32UartRis d => d.wf
  | .rd32UartMis d => d.wf
  | .wr32UartIcr v => v.wf
  | .wr32UartFr v => v.wf
  | .wr32UartRis v => v.wf
  | .wr32UartMis v => v.wf
  | .rd32UartIcr d => d.wf
  | .dmb => true
  | .setvbar a => a.wf
  | .cpsie => true
  | .cpsid => true
  | .spin _ => true
  | .iret => true
  | .ldw a d => a.wf && d.wf
  | .stw a v => a.wf && v.wf
  | .gpioSetFunction _ f => decide (f ≤ 7)
  | .gpioSetOutput _ level => level.wf
  | .gpioGetInput _ r => r.wf
  | .gpioSetPull _ mode => decide (mode ≤ 2)
  | .mboxCall r => r.wf
  | .getDisplaySurface r => r.wf
  | .timerNowUs r => r.wf
  | .timerNowUs64 r => r.wf
  | .timerSleepUs us => us.wf
  | .timerSleepMs ms => ms.wf
  | .timerArmPeriodic ms => ms.wf
  | .timerOnInterrupt => true
  | .ticksMs r => r.wf
  | .irqInstall => true
  | .handleIrq => true
  | .uartDrain => true
  | .installInputHandler h => h.wf
  | .uartInit baud => baud.all Expr.wf
  | .uartPutc c => c.wf
  | .uartPuts _ => true
  | .uartGetc r => r.wf
  | .uartGetcNb r => r.wf
  | .echo c => c.wf
  | .uartPutdec v => v.wf
  | .uartPuthex v => v.wf

end Sys2Proof
end

