-- ==== Sys2Proof/Decode.lean ====
section
/-! DEFINITION. The decoder and the encoder of 30_encoding: the address decode of R301, the operation keys of R302, the register
catalogue of 10_state R120 to R126, and the operands. Operands are not part of a key (R302); how they follow it in
32-bit words is the model's layout, DESIGN CHOICE (log 5). -/

namespace Sys2Proof

/-! ### Rejections -/

/-- Why a transaction or an operation is refused before it has a meaning. Every one is safe: the model stops. The spec names the
first alone; the other names, what they record and their order where it gives none are the model's (DESIGN CHOICE: log 26). -/
inductive Reject where
  /-- An offset outside the catalogue (40 R404, `UnmappedRegister(off)`). -/
  | unmappedRegister (off : Nat)
  /-- An offset that is no multiple of 4 (20 R211). -/
  | misalignedOffset (off : Nat)
  /-- An address outside the peripheral window (30 R301 step 1). R301 sends it to 40 R404, whose `UnmappedRegister(off)` is for an
  offset; that it is recorded under its own name, with the address, is the model's choice (DESIGN CHOICE: log 26). -/
  | outsideWindow (addr : Nat)
  /-- A width other than 32 bits (20 R212). -/
  | wrongWidth (bytes : Nat)
  /-- A key that matches no row (30 R302). -/
  | unknownKey (key : Nat)
  /-- Operands that the grammar refuses or that are cut short (30 R340, 41 R540, R543). -/
  | badOperands (key : Nat)
  /-- No operation where one is asked for. -/
  | noOperation
  deriving DecidableEq, Repr

/-- What a decoder answers: the instruction and the words after it, or why there is none. -/
inductive Decoded where
  | ok (i : Instr) (rest : List Word)
  | reject (r : Reject)
  deriving DecidableEq, Repr

/-! ### Operands (log 5) -/

/-- The low 31 bits of a word of a natural number; bit 31 says that more words follow. -/
def natDigits : Nat → Nat → List Word
  | 0, n => [BitVec.ofNat 32 n]
  | fuel + 1, n =>
    if n < 2147483648 then [BitVec.ofNat 32 n]
    else BitVec.ofNat 32 (2147483648 + n % 2147483648) :: natDigits fuel (n / 2147483648)

/-- A natural number in words of 31 bits, the low ones first. -/
def encodeNat (n : Nat) : List Word := natDigits (n.log2 / 31 + 1) n

/-- Reads what `encodeNat` writes. -/
def decodeNat : List Word → Option (Nat × List Word)
  | [] => none
  | w :: ws =>
    if w.toNat < 2147483648 then some (w.toNat, ws)
    else match decodeNat ws with
      | some (n, rest) => some (w.toNat - 2147483648 + 2147483648 * n, rest)
      | none => none

/-- The tag word of a binary operator. -/
def BinOp.tag : BinOp → Word
  | .add => 3#32
  | .sub => 4#32
  | .mul => 5#32
  | .div => 6#32
  | .mod => 7#32
  | .shl => 8#32
  | .shr => 9#32
  | .and => 10#32
  | .or => 11#32
  | .xor => 12#32

/-- The operator of a tag word. -/
def binOpOfTag (t : Word) : Option BinOp :=
  [BinOp.add, .sub, .mul, .div, .mod, .shl, .shr, .and, .or, .xor].find? (fun o => o.tag == t)

/-- An expression, prefix order: a tag word, then its parts. A literal is tag 0 and its value. -/
def encodeExpr : Expr → List Word
  | .lit v => [0#32, v]
  | .loc x => 1#32 :: encodeNat x
  | .not a => 2#32 :: encodeExpr a
  | .bin op a b => op.tag :: (encodeExpr a ++ encodeExpr b)
  | .ite c a b => 13#32 :: (encodeExpr c ++ encodeExpr a ++ encodeExpr b)
  | .slice hi lo a => 14#32 :: (encodeNat hi ++ encodeNat lo ++ encodeExpr a)

/-- Reads what `encodeExpr` writes; `fuel` bounds the depth, and the number of words is enough. -/
def decodeExprFuel : Nat → List Word → Option (Expr × List Word)
  | 0, _ => none
  | _ + 1, [] => none
  | fuel + 1, t :: ws =>
    if t = 0#32 then
      match ws with
      | v :: ws => some (.lit v, ws)
      | [] => none
    else if t = 1#32 then
      match decodeNat ws with
      | some (x, ws) => some (.loc x, ws)
      | none => none
    else if t = 2#32 then
      match decodeExprFuel fuel ws with
      | some (a, ws) => some (.not a, ws)
      | none => none
    else if t = 13#32 then
      match decodeExprFuel fuel ws with
      | some (c, ws) =>
        match decodeExprFuel fuel ws with
        | some (a, ws) =>
          match decodeExprFuel fuel ws with
          | some (b, ws) => some (.ite c a b, ws)
          | none => none
        | none => none
      | none => none
    else if t = 14#32 then
      match decodeNat ws with
      | some (hi, ws) =>
        match decodeNat ws with
        | some (lo, ws) =>
          match decodeExprFuel fuel ws with
          | some (a, ws) => if lo ≤ hi ∧ hi ≤ 31 then some (.slice hi lo a, ws) else none
          | none => none
        | none => none
      | none => none
    else
      match binOpOfTag t with
      | some op =>
        match decodeExprFuel fuel ws with
        | some (a, ws) =>
          match decodeExprFuel fuel ws with
          | some (b, ws) => some (.bin op a b, ws)
          | none => none
        | none => none
      | none => none

/-- Reads an expression. -/
def decodeExpr (ws : List Word) : Option (Expr × List Word) := decodeExprFuel ws.length ws

/-- The operand of `uart_init` (45 R940): an expression, or tag 15 where it is left out (log 5). -/
def encodeBaud : Option Expr → List Word
  | some e => encodeExpr e
  | none => [15#32]

/-- Reads what `encodeBaud` writes. -/
def decodeBaud : List Word → Option (Option Expr × List Word)
  | [] => none
  | t :: ws =>
    if t = 15#32 then some (none, ws)
    else
      match decodeExpr (t :: ws) with
      | some (e, ws) => some (some e, ws)
      | none => none

/-- A result's destination: the number of its local. -/
def encodeRet : Ret → List Word
  | .loc x => encodeNat x
  | .drain => encodeNat 0

/-- Reads a result's destination. -/
def decodeRet (ws : List Word) : Option (Ret × List Word) :=
  (decodeNat ws).map (fun p => (.loc p.1, p.2))

/-- The destination of a read that a program may write. -/
def encodeDest : Dest → List Word
  | .ret r => encodeRet r
  | _ => encodeNat 0

/-- Reads the destination of a read. -/
def decodeDest (ws : List Word) : Option (Dest × List Word) :=
  (decodeRet ws).map (fun p => (.ret p.1, p.2))

/-- `n` words. -/
def takeWords : Nat → List Word → Option (List Word × List Word)
  | 0, ws => some ([], ws)
  | _ + 1, [] => none
  | n + 1, w :: ws => (takeWords n ws).map (fun p => (w :: p.1, p.2))

/-- `n` bytes, one a word. -/
def takeBytes : Nat → List Word → Option (List Byte × List Word)
  | 0, ws => some ([], ws)
  | _ + 1, [] => none
  | n + 1, w :: ws =>
    if w.toNat < 256 then (takeBytes n ws).map (fun p => (w.setWidth 8 :: p.1, p.2)) else none

/-- A list of bytes: how many, then one a word. -/
def encodeBytes (bs : List Byte) : List Word := encodeNat bs.length ++ bs.map (fun b => b.setWidth 32)

/-- Reads a list of bytes. -/
def decodeBytes (ws : List Word) : Option (List Byte × List Word) :=
  match decodeNat ws with
  | some (n, ws) => takeBytes n ws
  | none => none

/-- One row of a handler's table: how many words, then the words. -/
def encodeRow (ws : List Word) : List Word := encodeNat ws.length ++ ws

/-- `n` rows of a handler's table. -/
def takeRows : Nat → List Word → Option (List (List Word) × List Word)
  | 0, ws => some ([], ws)
  | n + 1, ws =>
    match decodeNat ws with
    | some (k, ws) =>
      match takeWords k ws with
      | some (row, ws) => (takeRows n ws).map (fun p => (row :: p.1, p.2))
      | none => none
    | none => none

/-- A handler: 0 for `echo`, else one more than the number of rows and the rows. -/
def encodeHandler : Handler → List Word
  | .echo => encodeNat 0
  | .table rows => encodeNat (rows.length + 1) ++ rows.flatMap encodeRow

/-- Reads a handler; at most 256 rows. -/
def decodeHandler (ws : List Word) : Option (Handler × List Word) :=
  match decodeNat ws with
  | some (0, ws) => some (.echo, ws)
  | some (n + 1, ws) =>
    if n ≤ 256 then (takeRows n ws).map (fun p => (.table p.1, p.2)) else none
  | none => none

/-! ### The register catalogue (10 R120 to R126, 30 R301) -/

/-- The five register blocks. -/
inductive Block where
  | st | ic | mbox | gpio | uart
  deriving DecidableEq, Repr

/-- The offset of a block (00 R20: `P_ST_OFF`, `P_IC_OFF`, `P_MBOX_OFF`, `P_GPIO_OFF`, `P_UART_OFF`). -/
def Block.base : Block → Nat
  | .st => 0x003000
  | .ic => 0x00B200
  | .mbox => 0x00B880
  | .gpio => 0x200000
  | .uart => 0x201000

/-- One past the last offset of a block (30 R301 step 3). -/
def Block.limit : Block → Nat
  | .st => 0x004000
  | .ic => 0x00B280
  | .mbox => 0x00B8C0
  | .gpio => 0x201000
  | .uart => 0x202000

/-- The block of a peripheral offset and the register offset within it (30 R301 step 3). -/
def blockOf (off : Nat) : Option (Block × Nat) :=
  ([Block.st, .ic, .mbox, .gpio, .uart].find? (fun b => decide (b.base ≤ off) && decide (off < b.limit))).map
    (fun b => (b, off - b.base))

/-- The registers of the GPIO block that an `RD32` reaches, by register offset (R120, R403, R406). -/
def gpioReads : List (Nat × (Dest → Instr)) :=
  [(0x00, .rd32Gpfsel0), (0x04, .rd32Gpfsel1), (0x08, .rd32Gpfsel2), (0x0C, .rd32Gpfsel3),
   (0x10, .rd32Gpfsel4), (0x14, .rd32Gpfsel5), (0x1C, .rd32Gpset0), (0x20, .rd32Gpset1),
   (0x28, .rd32Gpclr0), (0x2C, .rd32Gpclr1), (0x34, .rd32Gplev0), (0x38, .rd32Gplev1),
   (0x94, .rd32Gppud), (0x98, .rd32Gppudclk0), (0x9C, .rd32Gppudclk1)]

/-- The registers of the ST block that an `RD32` reaches, by register offset (R122, R403, R406). -/
def stReads : List (Nat × (Dest → Instr)) :=
  [(0x00, .rd32StCs), (0x04, .rd32StClo), (0x08, .rd32StChi), (0x0C, .rd32StC0), (0x10, .rd32StC1),
   (0x14, .rd32StC2), (0x18, .rd32StC3)]

/-- The registers of the IC block that an `RD32` reaches, by register offset (R123, R403, R406). -/
def icReads : List (Nat × (Dest → Instr)) :=
  [(0x00, .rd32IrqBasicPending), (0x04, .rd32IrqPending1), (0x08, .rd32IrqPending2),
   (0x0C, .rd32FiqControl), (0x10, .rd32EnableIrqs1), (0x14, .rd32EnableIrqs2),
   (0x18, .rd32EnableBasic), (0x1C, .rd32DisableIrqs1), (0x20, .rd32DisableIrqs2),
   (0x24, .rd32DisableBasic)]

/-- The registers of the MBOX block that an `RD32` reaches, by register offset (R125, R403, R406). -/
def mboxReads : List (Nat × (Dest → Instr)) :=
  [(0x00, .rd32Mbox0Read), (0x10, .rd32Mbox0Peek), (0x18, .rd32Mbox0Status), (0x20, .rd32Mbox1Write),
   (0x38, .rd32Mbox1Status)]

/-- The registers of the UART block that an `RD32` reaches, by register offset (R126, R403, R406). -/
def uartReads : List (Nat × (Dest → Instr)) :=
  [(0x00, .rd32UartDr), (0x04, .rd32UartRsrecr), (0x18, .rd32UartFr), (0x24, .rd32UartIbrd),
   (0x28, .rd32UartFbrd), (0x2C, .rd32UartLcrh), (0x30, .rd32UartCr), (0x34, .rd32UartIfls),
   (0x38, .rd32UartImsc), (0x3C, .rd32UartRis), (0x40, .rd32UartMis), (0x44, .rd32UartIcr)]

/-- The registers of the GPIO block that a `WR32` reaches, by register offset (R120, R403, R405). -/
def gpioWrites : List (Nat × (Expr → Instr)) :=
  [(0x00, .wr32Gpfsel0), (0x04, .wr32Gpfsel1), (0x08, .wr32Gpfsel2), (0x0C, .wr32Gpfsel3),
   (0x10, .wr32Gpfsel4), (0x14, .wr32Gpfsel5), (0x1C, .wr32Gpset0), (0x20, .wr32Gpset1),
   (0x28, .wr32Gpclr0), (0x2C, .wr32Gpclr1), (0x34, .wr32Gplev0), (0x38, .wr32Gplev1),
   (0x94, .wr32Gppud), (0x98, .wr32Gppudclk0), (0x9C, .wr32Gppudclk1)]

/-- The registers of the ST block that a `WR32` reaches, by register offset (R122, R403, R405). -/
def stWrites : List (Nat × (Expr → Instr)) :=
  [(0x00, .wr32StCs), (0x04, .wr32StClo), (0x08, .wr32StChi), (0x0C, .wr32StC0), (0x10, .wr32StC1),
   (0x14, .wr32StC2), (0x18, .wr32StC3)]

/-- The registers of the IC block that a `WR32` reaches, by register offset (R123, R403, R405). -/
def icWrites : List (Nat × (Expr → Instr)) :=
  [(0x00, .wr32IrqBasicPending), (0x04, .wr32IrqPending1), (0x08, .wr32IrqPending2),
   (0x0C, .wr32FiqControl), (0x10, .wr32EnableIrqs1), (0x14, .wr32EnableIrqs2),
   (0x18, .wr32EnableBasic), (0x1C, .wr32DisableIrqs1), (0x20, .wr32DisableIrqs2),
   (0x24, .wr32DisableBasic)]

/-- The registers of the MBOX block that a `WR32` reaches, by register offset (R125, R403, R405). -/
def mboxWrites : List (Nat × (Expr → Instr)) :=
  [(0x00, .wr32Mbox0Read), (0x10, .wr32Mbox0Peek), (0x18, .wr32Mbox0Status), (0x20, .wr32Mbox1Write),
   (0x38, .wr32Mbox1Status)]

/-- The registers of the UART block that a `WR32` reaches, by register offset (R126, R403, R405). -/
def uartWrites : List (Nat × (Expr → Instr)) :=
  [(0x00, .wr32UartDr), (0x04, .wr32UartRsrecr), (0x18, .wr32UartFr), (0x24, .wr32UartIbrd),
   (0x28, .wr32UartFbrd), (0x2C, .wr32UartLcrh), (0x30, .wr32UartCr), (0x34, .wr32UartIfls),
   (0x38, .wr32UartImsc), (0x3C, .wr32UartRis), (0x40, .wr32UartMis), (0x44, .wr32UartIcr)]

/-- The reads of a block. -/
def Block.reads : Block → List (Nat × (Dest → Instr))
  | .st => stReads
  | .ic => icReads
  | .mbox => mboxReads
  | .gpio => gpioReads
  | .uart => uartReads

/-- The writes of a block. -/
def Block.writes : Block → List (Nat × (Expr → Instr))
  | .st => stWrites
  | .ic => icWrites
  | .mbox => mboxWrites
  | .gpio => gpioWrites
  | .uart => uartWrites

/-- The read instruction of a peripheral offset: a catalogue register, or a rejection (R301 steps 2 to 4, R404). -/
def readAt (off : Nat) : Except Reject (Dest → Instr) :=
  if off % 4 = 0 then
    match (blockOf off).bind (fun p => p.1.reads.lookup p.2) with
    | some f => .ok f
    | none => .error (.unmappedRegister off)
  else .error (.misalignedOffset off)

/-- The write instruction of a peripheral offset. -/
def writeAt (off : Nat) : Except Reject (Expr → Instr) :=
  if off % 4 = 0 then
    match (blockOf off).bind (fun p => p.1.writes.lookup p.2) with
    | some f => .ok f
    | none => .error (.unmappedRegister off)
  else .error (.misalignedOffset off)

/-! ### Bus transactions (30 R300, R301) -/

/-- The direction of a transaction. -/
inductive Dir where
  | read | write
  deriving DecidableEq, Repr

/-- A bus transaction: direction, CPU physical address, data of a write, size in bytes (R300). -/
structure Transaction where
  dir : Dir
  addr : Word
  data : Word
  size : Nat
  deriving DecidableEq, Repr

/-- The peripheral offset of a transaction for the peripheral base `base` (R301 steps 1 and 2, R211, R212). Which refusal is recorded
outside the window, and that the width is looked at first, is the model's choice (DESIGN CHOICE: log 26). -/
def Transaction.offset (base : Word) (t : Transaction) : Except Reject Nat :=
  if t.size ≠ 4 then .error (.wrongWidth t.size)
  else if t.addr.toNat < base.toNat ∨ 0x1000000 ≤ t.addr.toNat - base.toNat then .error (.outsideWindow t.addr.toNat)
  else if (t.addr.toNat - base.toNat) % 4 ≠ 0 then .error (.misalignedOffset (t.addr.toNat - base.toNat))
  else .ok (t.addr.toNat - base.toNat)

/-- The instruction that a transaction is: the decode is total (R301). `d` is where the value of a read goes. -/
def Transaction.instr (base : Word) (d : Dest) (t : Transaction) : Except Reject Instr :=
  match t.offset base with
  | .error e => .error e
  | .ok off =>
    match t.dir with
    | .read => (readAt off).map (fun f => f d)
    | .write => (writeAt off).map (fun f => f (.lit t.data))

/-! ### The CPU primitives and the driver operations (30 R340, R341) -/

/-- An operation with no operand. -/
def parse0 (i : Instr) (ws : List Word) : Option (Instr × List Word) := some (i, ws)

/-- An operation with one operand. -/
def parse1 {α : Type} (p : List Word → Option (α × List Word)) (f : α → Instr) (ws : List Word) :
    Option (Instr × List Word) :=
  match p ws with
  | some (a, ws) => some (f a, ws)
  | none => none

/-- An operation with two operands. -/
def parse2 {α β : Type} (p : List Word → Option (α × List Word)) (q : List Word → Option (β × List Word))
    (f : α → β → Instr) (ws : List Word) : Option (Instr × List Word) :=
  match p ws with
  | some (a, ws) =>
    match q ws with
    | some (b, ws) => some (f a b, ws)
    | none => none
  | none => none

/-- A natural operand of at most `m`: another one is refused by the grammar (41 R540, R543). -/
def decodeNatUpTo (m : Nat) (ws : List Word) : Option (Nat × List Word) :=
  match decodeNat ws with
  | some (n, ws) => if n ≤ m then some (n, ws) else none
  | none => none

/-- The CPU primitives by `key / 256` (R340). -/
def cpuOps : List (Nat × (List Word → Option (Instr × List Word))) :=
  [(0x800001, parse0 .dmb),
   (0x800002, parse1 decodeExpr .setvbar),
   (0x800003, parse0 .cpsie),
   (0x800004, parse0 .cpsid),
   (0x800005, parse1 decodeNat .spin),
   (0x800006, parse0 .iret),
   (0x800007, parse2 decodeExpr decodeDest .ldw),
   (0x800008, parse2 decodeExpr decodeExpr .stw)]

/-- The driver operations by `key / 256` (R341). -/
def driverOps : List (Nat × (List Word → Option (Instr × List Word))) :=
  [(0x400010, parse2 decodeNat (decodeNatUpTo 7) .gpioSetFunction),
   (0x400011, parse2 decodeNat decodeExpr .gpioSetOutput),
   (0x400012, parse2 decodeNat decodeRet .gpioGetInput),
   (0x400013, parse2 decodeNat (decodeNatUpTo 2) .gpioSetPull),
   (0x400020, parse1 decodeRet .mboxCall),
   (0x400021, parse1 decodeRet .getDisplaySurface),
   (0x400030, parse1 decodeRet .timerNowUs),
   (0x400031, parse1 decodeRet .timerNowUs64),
   (0x400032, parse1 decodeExpr .timerSleepUs),
   (0x400033, parse1 decodeExpr .timerSleepMs),
   (0x400034, parse1 decodeExpr .timerArmPeriodic),
   (0x400035, parse0 .timerOnInterrupt),
   (0x400036, parse1 decodeRet .ticksMs),
   (0x400040, parse0 .irqInstall),
   (0x400041, parse0 .handleIrq),
   (0x400042, parse0 .uartDrain),
   (0x400043, parse1 decodeHandler .installInputHandler),
   (0x400050, parse1 decodeBaud .uartInit),
   (0x400051, parse1 decodeExpr .uartPutc),
   (0x400052, parse1 decodeBytes .uartPuts),
   (0x400053, parse1 decodeRet .uartGetc),
   (0x400054, parse1 decodeRet .uartGetcNb),
   (0x400055, parse1 decodeExpr .echo),
   (0x400056, parse1 decodeExpr .uartPutdec),
   (0x400057, parse1 decodeExpr .uartPuthex)]

/-! ### Decoding -/

/-- The answer for a key whose operands `p` reads. -/
def finish (key : Nat) : Option (Instr × List Word) → Decoded
  | some (i, rest) => .ok i rest
  | none => .reject (.badOperands key)

/-- Decodes one operation from the words of a program: its key (R302), then its operands. Total: every word list is an
operation and what follows it, or is rejected by name. -/
def decode : List Word → Decoded
  | [] => .reject .noOperation
  | k :: ws =>
    let key := k.toNat
    if key < 0x1000000 then
      match readAt key with
      | .ok f => finish key (parse1 decodeDest f ws)
      | .error e => .reject e
    else if key < 0x2000000 then
      match writeAt (key - 0x1000000) with
      | .ok f => finish key (parse1 decodeExpr f ws)
      | .error e => .reject e
    else
      match (cpuOps ++ driverOps).lookup (key / 256) with
      | some p => finish key (p ws)
      | none => .reject (.unknownKey key)

/-! ### Encoding -/

/-- The words of an instruction: its key, from the tables of R302, R340 and R341, then its operands. -/
def encode : Instr → List Word
  | .rd32Gpfsel0 d => 0x00200000#32 :: encodeDest d
  | .rd32Gpfsel1 d => 0x00200004#32 :: encodeDest d
  | .rd32Gpfsel2 d => 0x00200008#32 :: encodeDest d
  | .rd32Gpfsel3 d => 0x0020000C#32 :: encodeDest d
  | .rd32Gpfsel4 d => 0x00200010#32 :: encodeDest d
  | .rd32Gpfsel5 d => 0x00200014#32 :: encodeDest d
  | .wr32Gpfsel0 v => 0x01200000#32 :: encodeExpr v
  | .wr32Gpfsel1 v => 0x01200004#32 :: encodeExpr v
  | .wr32Gpfsel2 v => 0x01200008#32 :: encodeExpr v
  | .wr32Gpfsel3 v => 0x0120000C#32 :: encodeExpr v
  | .wr32Gpfsel4 v => 0x01200010#32 :: encodeExpr v
  | .wr32Gpfsel5 v => 0x01200014#32 :: encodeExpr v
  | .rd32Gppud d => 0x00200094#32 :: encodeDest d
  | .wr32Gppud v => 0x01200094#32 :: encodeExpr v
  | .rd32Gppudclk0 d => 0x00200098#32 :: encodeDest d
  | .rd32Gppudclk1 d => 0x0020009C#32 :: encodeDest d
  | .wr32Gppudclk0 v => 0x01200098#32 :: encodeExpr v
  | .wr32Gppudclk1 v => 0x0120009C#32 :: encodeExpr v
  | .wr32Gpset0 v => 0x0120001C#32 :: encodeExpr v
  | .wr32Gpset1 v => 0x01200020#32 :: encodeExpr v
  | .wr32Gpclr0 v => 0x01200028#32 :: encodeExpr v
  | .wr32Gpclr1 v => 0x0120002C#32 :: encodeExpr v
  | .rd32Gplev0 d => 0x00200034#32 :: encodeDest d
  | .rd32Gplev1 d => 0x00200038#32 :: encodeDest d
  | .rd32Gpset0 d => 0x0020001C#32 :: encodeDest d
  | .rd32Gpset1 d => 0x00200020#32 :: encodeDest d
  | .rd32Gpclr0 d => 0x00200028#32 :: encodeDest d
  | .rd32Gpclr1 d => 0x0020002C#32 :: encodeDest d
  | .wr32Gplev0 v => 0x01200034#32 :: encodeExpr v
  | .wr32Gplev1 v => 0x01200038#32 :: encodeExpr v
  | .rd32StCs d => 0x00003000#32 :: encodeDest d
  | .wr32StCs v => 0x01003000#32 :: encodeExpr v
  | .rd32StClo d => 0x00003004#32 :: encodeDest d
  | .rd32StChi d => 0x00003008#32 :: encodeDest d
  | .rd32StC0 d => 0x0000300C#32 :: encodeDest d
  | .rd32StC1 d => 0x00003010#32 :: encodeDest d
  | .rd32StC2 d => 0x00003014#32 :: encodeDest d
  | .rd32StC3 d => 0x00003018#32 :: encodeDest d
  | .wr32StC0 v => 0x0100300C#32 :: encodeExpr v
  | .wr32StC1 v => 0x01003010#32 :: encodeExpr v
  | .wr32StC2 v => 0x01003014#32 :: encodeExpr v
  | .wr32StC3 v => 0x01003018#32 :: encodeExpr v
  | .wr32StClo v => 0x01003004#32 :: encodeExpr v
  | .wr32StChi v => 0x01003008#32 :: encodeExpr v
  | .rd32IrqBasicPending d => 0x0000B200#32 :: encodeDest d
  | .rd32IrqPending1 d => 0x0000B204#32 :: encodeDest d
  | .rd32IrqPending2 d => 0x0000B208#32 :: encodeDest d
  | .rd32FiqControl d => 0x0000B20C#32 :: encodeDest d
  | .wr32FiqControl v => 0x0100B20C#32 :: encodeExpr v
  | .rd32EnableIrqs1 d => 0x0000B210#32 :: encodeDest d
  | .wr32EnableIrqs1 v => 0x0100B210#32 :: encodeExpr v
  | .rd32EnableIrqs2 d => 0x0000B214#32 :: encodeDest d
  | .wr32EnableIrqs2 v => 0x0100B214#32 :: encodeExpr v
  | .rd32EnableBasic d => 0x0000B218#32 :: encodeDest d
  | .wr32EnableBasic v => 0x0100B218#32 :: encodeExpr v
  | .rd32DisableIrqs1 d => 0x0000B21C#32 :: encodeDest d
  | .wr32DisableIrqs1 v => 0x0100B21C#32 :: encodeExpr v
  | .rd32DisableIrqs2 d => 0x0000B220#32 :: encodeDest d
  | .wr32DisableIrqs2 v => 0x0100B220#32 :: encodeExpr v
  | .rd32DisableBasic d => 0x0000B224#32 :: encodeDest d
  | .wr32DisableBasic v => 0x0100B224#32 :: encodeExpr v
  | .wr32IrqBasicPending v => 0x0100B200#32 :: encodeExpr v
  | .wr32IrqPending1 v => 0x0100B204#32 :: encodeExpr v
  | .wr32IrqPending2 v => 0x0100B208#32 :: encodeExpr v
  | .rd32Mbox0Read d => 0x0000B880#32 :: encodeDest d
  | .rd32Mbox0Peek d => 0x0000B890#32 :: encodeDest d
  | .rd32Mbox0Status d => 0x0000B898#32 :: encodeDest d
  | .rd32Mbox1Status d => 0x0000B8B8#32 :: encodeDest d
  | .wr32Mbox1Write v => 0x0100B8A0#32 :: encodeExpr v
  | .wr32Mbox0Read v => 0x0100B880#32 :: encodeExpr v
  | .wr32Mbox0Peek v => 0x0100B890#32 :: encodeExpr v
  | .wr32Mbox0Status v => 0x0100B898#32 :: encodeExpr v
  | .wr32Mbox1Status v => 0x0100B8B8#32 :: encodeExpr v
  | .rd32Mbox1Write d => 0x0000B8A0#32 :: encodeDest d
  | .rd32UartDr d => 0x00201000#32 :: encodeDest d
  | .wr32UartDr v => 0x01201000#32 :: encodeExpr v
  | .rd32UartRsrecr d => 0x00201004#32 :: encodeDest d
  | .wr32UartRsrecr v => 0x01201004#32 :: encodeExpr v
  | .rd32UartFr d => 0x00201018#32 :: encodeDest d
  | .rd32UartIbrd d => 0x00201024#32 :: encodeDest d
  | .wr32UartIbrd v => 0x01201024#32 :: encodeExpr v
  | .rd32UartFbrd d => 0x00201028#32 :: encodeDest d
  | .wr32UartFbrd v => 0x01201028#32 :: encodeExpr v
  | .rd32UartLcrh d => 0x0020102C#32 :: encodeDest d
  | .wr32UartLcrh v => 0x0120102C#32 :: encodeExpr v
  | .rd32UartCr d => 0x00201030#32 :: encodeDest d
  | .wr32UartCr v => 0x01201030#32 :: encodeExpr v
  | .rd32UartIfls d => 0x00201034#32 :: encodeDest d
  | .wr32UartIfls v => 0x01201034#32 :: encodeExpr v
  | .rd32UartImsc d => 0x00201038#32 :: encodeDest d
  | .wr32UartImsc v => 0x01201038#32 :: encodeExpr v
  | .rd32UartRis d => 0x0020103C#32 :: encodeDest d
  | .rd32UartMis d => 0x00201040#32 :: encodeDest d
  | .wr32UartIcr v => 0x01201044#32 :: encodeExpr v
  | .wr32UartFr v => 0x01201018#32 :: encodeExpr v
  | .wr32UartRis v => 0x0120103C#32 :: encodeExpr v
  | .wr32UartMis v => 0x01201040#32 :: encodeExpr v
  | .rd32UartIcr d => 0x00201044#32 :: encodeDest d
  | .dmb => [0x80000100#32]
  | .setvbar a => 0x80000200#32 :: encodeExpr a
  | .cpsie => [0x80000300#32]
  | .cpsid => [0x80000400#32]
  | .spin n => 0x80000500#32 :: encodeNat n
  | .iret => [0x80000600#32]
  | .ldw a d => 0x80000700#32 :: (encodeExpr a ++ encodeDest d)
  | .stw a v => 0x80000800#32 :: (encodeExpr a ++ encodeExpr v)
  | .gpioSetFunction p f => 0x40001000#32 :: (encodeNat p ++ encodeNat f)
  | .gpioSetOutput p level => 0x40001100#32 :: (encodeNat p ++ encodeExpr level)
  | .gpioGetInput p r => 0x40001200#32 :: (encodeNat p ++ encodeRet r)
  | .gpioSetPull p mode => 0x40001300#32 :: (encodeNat p ++ encodeNat mode)
  | .mboxCall r => 0x40002000#32 :: encodeRet r
  | .getDisplaySurface r => 0x40002100#32 :: encodeRet r
  | .timerNowUs r => 0x40003000#32 :: encodeRet r
  | .timerNowUs64 r => 0x40003100#32 :: encodeRet r
  | .timerSleepUs us => 0x40003200#32 :: encodeExpr us
  | .timerSleepMs ms => 0x40003300#32 :: encodeExpr ms
  | .timerArmPeriodic ms => 0x40003400#32 :: encodeExpr ms
  | .timerOnInterrupt => [0x40003500#32]
  | .ticksMs r => 0x40003600#32 :: encodeRet r
  | .irqInstall => [0x40004000#32]
  | .handleIrq => [0x40004100#32]
  | .uartDrain => [0x40004200#32]
  | .installInputHandler h => 0x40004300#32 :: encodeHandler h
  | .uartInit baud => 0x40005000#32 :: encodeBaud baud
  | .uartPutc c => 0x40005100#32 :: encodeExpr c
  | .uartPuts bytes => 0x40005200#32 :: encodeBytes bytes
  | .uartGetc r => 0x40005300#32 :: encodeRet r
  | .uartGetcNb r => 0x40005400#32 :: encodeRet r
  | .echo c => 0x40005500#32 :: encodeExpr c
  | .uartPutdec v => 0x40005600#32 :: encodeExpr v
  | .uartPuthex v => 0x40005700#32 :: encodeExpr v

/-- The key of an instruction (R302). -/
def Instr.key (i : Instr) : Word := (encode i).headD 0#32

/-- Whether running the instruction is no CPU step: a driver operation is replaced by its expansion at no cost (10 R102), but
`ticks_ms` (43 R736) and `install_input_handler` (44 R872) are "one CPU step". Driver keys have bits 31:30 = 0b01 (R302). -/
def Instr.expands (i : Instr) : Bool :=
  decide (i.key.extractLsb' 30 2 = 0b01#2) && decide (i.key ≠ 0x40003600#32) && decide (i.key ≠ 0x40004300#32)

/-! ### The host's words -/

/-- The words of an instruction of `nbits` bits `w`, the first word from bit 0, and eight operand words of zeros. -/
def tableWords (nbits w : Nat) : List Word :=
  (List.range ((nbits + 31) / 32)).map (fun j => BitVec.ofNat 32 ((w % 2 ^ nbits) >>> (32 * j))) ++ List.replicate 8 0#32

/-- The instruction that the decoder reads from `tableWords`. -/
def decodeTableWord (nbits w : Nat) : Option Instr :=
  match decode (tableWords nbits w) with
  | .ok i _ => some i
  | .reject _ => none

/-- The words of `tableWords` that the instruction takes, all of them where there is none. -/
def programWords (nbits w : Nat) : List Word :=
  match decode (tableWords nbits w) with
  | .ok _ rest => (tableWords nbits w).take ((tableWords nbits w).length - rest.length)
  | .reject _ => tableWords nbits w

end Sys2Proof
end

