-- ==== Sys2Proof/Machine/State.lean ====
section
/-! DEFINITION. The state of the block (10_state R100 to R112), its value at entry (R160), and the reasons a step can stop
(60_exceptions R1001). State is plain data. -/

namespace Sys2Proof.Machine

open Sys2Proof

/-! ### Stops -/

/-- The faults of 60 R1001. A fault is terminal and records its kind only (00 R32). Every one is SAFE: the model stops where
the spec says that it stops. -/
inductive Fault where
  /-- 42 R604: MBOX1_WRITE with the outbound FIFO full. -/
  | mboxOverflow
  /-- 45 R903: UART_DR write with the transmit FIFO full. -/
  | txOverflow
  /-- 40 R425: `IRET` in context `Fg`. -/
  | iretOutsideIrq
  /-- 60 R1020: IRQ entry before `SETVBAR`. -/
  | irqWithoutTable
  /-- 60 R1012: an entry through a vector other than IRQ; no rule of the model produces one. -/
  | unexpectedException
  /-- 42 R652: `get_display_surface` before a successful `mbox_call`. -/
  | noSurface
  deriving DecidableEq, Repr

/-- The refusals of 60 R1001. Every one is SAFE: the model gives the operation no meaning and stops, as the spec says. -/
inductive Refusal where
  /-- Raised by `exec` alone, for an instruction with no meaning yet. -/
  | notModelled (mnemonic : String)
  /-- Raised by the decoder: unmapped or misaligned offset, address outside the window, wrong width, unknown key, operands outside
  the grammar (which is recorded when: log 26). -/
  | rejected (r : Reject)
  /-- 20 R211, 40 R410: a RAM address that is no multiple of 4 (the name, and that it is looked at first: log 26). -/
  | misalignedAddress (addr : Nat)
  /-- 40 R410, R411: a RAM access at or above `P_PERIPH_BASE` (the name: log 26). -/
  | outsideRam (addr : Nat)
  /-- 40 R411, 20 R250: `STW` into the vector table after `SETVBAR`. -/
  | vectorTableWrite (addr : Nat)
  /-- 40 R421: a second `SETVBAR`. -/
  | vectorTableReinstalled
  /-- 40 R421: `SETVBAR a` with `a % 32 != 0`. -/
  | vbarMisaligned
  /-- 40 R422: `CPSIE` in context `Irq`. -/
  | nestedEnable
  /-- 41 R517: a GPPUD write of 3. -/
  | reservedPud
  /-- 44 R808: FIQ_CONTROL bit 7 = 1. -/
  | fiqUnmodelled
  /-- 45 R917: UART_CR with SIREN, SIRLP, RTSEN or CTSEN. -/
  | unmodelledUartMode
  /-- 45 R919: a UART_IFLS field above 4. -/
  | reservedTriggerLevel
  /-- 45 R940: `uart_init(0)`. -/
  | baudZero
  /-- 20 R211: `P_MBOX_BUF % 16 != 0`, refused at launch. -/
  | mailboxBufferMisaligned
  deriving DecidableEq, Repr

/-! ### The CPU side -/

/-- `S.ctx` (R103): the execution context. -/
inductive Ctx where
  | fg | irq
  deriving DecidableEq, Repr

/-- `S.ic_phase` (R103, 44 R861). -/
inductive Phase where
  | masked | armed
  deriving DecidableEq, Repr

/-- The display surface of R105. -/
structure DisplaySurface where
  width : Word
  height : Word
  pitch : Word
  buffer : Word
  size : Word
  deriving DecidableEq, Repr

/-- What a local holds: the result types of R101. -/
inductive Value where
  | word (v : Word)
  | dword (v : BitVec 64)
  | bool (b : Bool)
  | byte (b : Byte)
  | optByte (b : Option Byte)
  | surface (s : DisplaySurface)
  /-- `Ok(s)` of `mbox_call`. -/
  | mboxOk (s : DisplaySurface)
  /-- `Err(Failed)` of `mbox_call`. -/
  | mboxFailed
  deriving DecidableEq, Repr

/-- The locals of a piece of program text (R100): number and value. -/
abbrev Locals := List (Nat × Value)

/-- An entry of the continuation (R102). -/
inductive Task where
  /-- An instruction that is still to run: a primitive, or a driver operation not yet expanded. -/
  | op (i : Instr)
  /-- Program text (the foreground program, or a handler's operations) that is still to run, in encoded form, with the
  locals it holds. -/
  | code (text : List Word) (locals : Locals)
  /-- `S.tick <- S.tick + 1`, one CPU step (43 R735). -/
  | tickStep
  /-- `S.uart_initialized <- true`, one CPU step (45 R940). -/
  | uartInitStep
  /-- `CPSIE` with, in the same step, `S.ic_phase <- Armed` (44 R860). -/
  | cpsieArm
  deriving DecidableEq, Repr

/-- The CPU fields of R102 and R103. -/
structure Cpu where
  /-- `S.ctx`. -/
  ctx : Ctx
  /-- `S.irq_mask`: true = IRQ masked. -/
  irqMask : Bool
  /-- `S.vbar`. -/
  vbar : Word
  /-- `S.vbar_set`. -/
  vbarSet : Bool
  /-- `S.saved`: the foreground continuation saved at IRQ entry. -/
  saved : Option (List Task)
  /-- `S.saved_mask`. -/
  savedMask : Bool
  /-- `S.ic_phase`. -/
  icPhase : Phase
  /-- `S.cont`: what is still to run, with its locals. -/
  cont : List Task
  deriving DecidableEq, Repr

/-- The software-owned words of R105. -/
structure Soft where
  /-- `S.tick`. -/
  tick : Word
  /-- `S.input_handler`. -/
  inputHandler : Handler
  /-- `S.surface`. -/
  surface : Option DisplaySurface
  /-- `S.uart_initialized`. -/
  uartInitialized : Bool
  deriving DecidableEq, Repr

/-! ### The peripherals -/

/-- The pull state of a pad (R106). -/
inductive Pull where
  | off | down | up | unknown
  deriving DecidableEq, Repr

/-- One value for each GPIO pin 0..53 (R106). -/
abbrev PerPin (α : Type) := Vector α 54

/-- GPIO state (R106). -/
structure Gpio where
  /-- `G.fsel[p]`. -/
  fsel : PerPin (BitVec 3)
  /-- `G.out[p]`, bit `p`. -/
  out : BitVec 54
  /-- `G.pudclk[p]`, bit `p`. -/
  pudclk : BitVec 54
  /-- `G.pull[p]`. -/
  pull : PerPin Pull
  /-- `G.clk_t[p]`. -/
  clkT : PerPin Nat
  /-- `G.cand[p]`. -/
  cand : PerPin Pull
  /-- `G.pud`. -/
  pud : BitVec 2
  /-- `G.pud_t`. -/
  pudT : Nat
  /-- `G.fsel_rsvd[k]`, k in 0..4: bits 31:30 of GPFSEL0 to GPFSEL4. Nothing reads or writes them (40 R407; log 19). -/
  fselRsvd : Vector (BitVec 2) 5
  /-- `G.fsel_rsvd[5]`: bits 31:12 of GPFSEL5 (log 19). -/
  fselRsvd5 : BitVec 20
  /-- `G.pudclk_rsvd`: bits 31:22 of GPPUDCLK1 (log 19). -/
  pudclkRsvd : BitVec 10
  deriving DecidableEq, Repr

/-- System timer state (R107). -/
structure Timer where
  /-- `T.cnt`. -/
  cnt : BitVec 64
  /-- `T.cmp[n]`. -/
  cmp : Vector Word 4
  /-- `T.m[n]`, bit `n`. -/
  m : BitVec 4
  deriving DecidableEq, Repr

/-- Interrupt controller state (R108). -/
structure Intc where
  /-- `I.en1`. -/
  en1 : Word
  /-- `I.en2`. -/
  en2 : Word
  /-- `I.enb`. -/
  enb : BitVec 8
  /-- `I.fiqc`. -/
  fiqc : BitVec 8
  deriving DecidableEq, Repr

/-- Mailbox state (R109). -/
structure Mailbox where
  /-- `M.in`: GPU to ARM, head first. -/
  inq : List Word
  /-- `M.out`: ARM to GPU, head first. -/
  outq : List Word
  /-- `M.gpu`. -/
  gpu : Option Word
  deriving DecidableEq, Repr

/-- An entry of the receive FIFO (R110). -/
structure RxEntry where
  data : Byte
  fe : Bool
  pe : Bool
  be : Bool
  oe : Bool
  deriving DecidableEq, Repr

/-- `U.lcr_eff` (R110): the line control in effect. -/
structure LineControl where
  ibrd : BitVec 16
  fbrd : BitVec 6
  lcrh : BitVec 8
  deriving DecidableEq, Repr

/-- UART state (R110). -/
structure Uart where
  /-- `U.txq`, head first. -/
  txq : List Byte
  /-- `U.rxq`, head first. -/
  rxq : List RxEntry
  /-- `U.ibrd`. -/
  ibrd : BitVec 16
  /-- `U.fbrd`. -/
  fbrd : BitVec 6
  /-- `U.lcrh` (R128). -/
  lcrh : BitVec 8
  /-- `U.lcr_eff`. -/
  lcrEff : LineControl
  /-- `U.lcr_ok`. -/
  lcrOk : Bool
  /-- `U.cr` (R129). -/
  cr : BitVec 16
  /-- `U.ifls` (R130). -/
  ifls : BitVec 6
  /-- `U.imsc` (R131). -/
  imsc : BitVec 11
  /-- `U.ris` (R131). -/
  ris : BitVec 11
  /-- `U.rsr`: bits 3, 2, 1, 0 = OE, BE, PE, FE (R126). -/
  rsr : BitVec 4
  deriving DecidableEq, Repr

/-- The observables outside the block (R111). -/
structure Line where
  /-- `L.tx`: what the peer has received, oldest first. -/
  tx : List Byte
  /-- `L.garbled`. -/
  garbled : Bool
  deriving DecidableEq, Repr

/-! ### RAM -/

/-- RAM (R112): the bytes that differ from what an unlisted address reads as, in rising order of address. -/
abbrev Memory := List Host.Cell

/-! ### The state -/

/-- The state of the block. -/
structure State where
  /-- The OPEN parameters of 00 R20, fixed for the machine (log 3). -/
  params : Config.Params
  cpu : Cpu
  soft : Soft
  gpio : Gpio
  timer : Timer
  intc : Intc
  mbox : Mailbox
  uart : Uart
  line : Line
  mem : Memory
  /-- `S.cyc` (R104). -/
  cyc : Nat
  /-- The MODEL's own: the index of the next draw (00 R33; log 8). -/
  draws : Nat
  /-- The MODEL's own: who moves in the next steps; `Config.turn` says so when it is empty (00 R5; log 7). -/
  sched : List Config.Turn
  deriving DecidableEq, Repr

/-! ### Updates, one part at a time -/

def State.setCpu (s : State) (x : Cpu) : State := { s with cpu := x }
def State.setSoft (s : State) (x : Soft) : State := { s with soft := x }
def State.setGpio (s : State) (x : Gpio) : State := { s with gpio := x }
def State.setTimer (s : State) (x : Timer) : State := { s with timer := x }
def State.setIntc (s : State) (x : Intc) : State := { s with intc := x }
def State.setMbox (s : State) (x : Mailbox) : State := { s with mbox := x }
def State.setUart (s : State) (x : Uart) : State := { s with uart := x }
def State.setLine (s : State) (x : Line) : State := { s with line := x }
def State.setMem (s : State) (x : Memory) : State := { s with mem := x }
def State.setCyc (s : State) (x : Nat) : State := { s with cyc := x }
def State.setDraws (s : State) (x : Nat) : State := { s with draws := x }
def State.setSched (s : State) (x : List Config.Turn) : State := { s with sched := x }
/-- The continuation, and nothing else. -/
def State.setCont (s : State) (x : List Task) : State := { s with cpu := { s.cpu with cont := x } }

/-! ### Reset -/

/-- The machine at entry (R160, 70 R1100). Fields that R160 fixes have its values; fields that R160 leaves a draw have the hw
reset value of R120 to R126 (DESIGN CHOICE, log 1) or, where there is none, the value of log 2; the parameters have
the reference values of R20 (log 3); no program is loaded (log 4). -/
def State.reset : State where
  params := Config.Params.reference
  cpu :=
    { ctx := .fg, irqMask := true, vbar := 0#32, vbarSet := false, saved := none, savedMask := false,
      icPhase := .masked, cont := [] }
  soft := { tick := 0#32, inputHandler := .echo, surface := none, uartInitialized := false }
  gpio :=
    { fsel := Vector.replicate 54 0#3, out := 0#54, pudclk := 0#54, pull := Vector.replicate 54 .unknown,
      clkT := Vector.replicate 54 0, cand := Vector.replicate 54 .unknown, pud := 0#2, pudT := 0,
      fselRsvd := Vector.replicate 5 0#2, fselRsvd5 := 0#20, pudclkRsvd := 0#10 }
  timer := { cnt := 0#64, cmp := Vector.replicate 4 0#32, m := 0#4 }
  intc := { en1 := 0#32, en2 := 0#32, enb := 0#8, fiqc := 0#8 }
  mbox := { inq := [], outq := [], gpu := none }
  uart :=
    { txq := [], rxq := [], ibrd := 0#16, fbrd := 0#6, lcrh := 0#8,
      lcrEff := { ibrd := 0#16, fbrd := 0#6, lcrh := 0#8 }, lcrOk := false, cr := 0x0300#16, ifls := 0x12#6,
      imsc := 0#11, ris := 0#11, rsr := 0#4 }
  line := { tx := [], garbled := false }
  mem := []
  cyc := 0
  draws := 0
  sched := []

end Sys2Proof.Machine
end

