-- ==== Sys2Proof/Machine/Operands.lean ====
section
/-! DEFINITION. Operands and field assembly (30_encoding R310 to R323, R340): expressions, bit helpers, GPIO fields, bus addresses,
mailbox messages, the baud divisor and the digits of the formatting helpers. -/

namespace Sys2Proof.Machine

open Sys2Proof

/-! ### Bits -/

/-- The word of width `n` whose bit `i` is `f i`. -/
def ofBits : (n : Nat) → (Nat → Bool) → BitVec n
  | 0, _ => 0#0
  | n + 1, f => BitVec.cons (f n) (ofBits n f)

/-- `v` with bit `i` set to `b`. -/
def putBit {w : Nat} (v : BitVec w) (i : Nat) (b : Bool) : BitVec w :=
  if b then v ||| (1#w <<< i) else v &&& ~~~(1#w <<< i)

/-! ### Expressions (R340, 00 R30; log 6) -/

/-- The value of a binary operator: unsigned, modulo 2^32; shifts are logical; the quotient and the remainder by zero
are free values. -/
def evalBin : BinOp → Word → Word → Word
  | .add, a, b => a + b
  | .sub, a, b => a - b
  | .mul, a, b => a * b
  | .div, a, b => if b = 0#32 then Config.divByZero a else a / b
  | .mod, a, b => if b = 0#32 then Config.modByZero a else a % b
  | .shl, a, b => if b.toNat < 32 then a <<< b.toNat else 0#32
  | .shr, a, b => if b.toNat < 32 then a >>> b.toNat else 0#32
  | .and, a, b => a &&& b
  | .or, a, b => a ||| b
  | .xor, a, b => a ^^^ b

/-- The 32-bit reading of a local: a u32, a u8 or a bool; other results have none. -/
def Value.word? : Value → Option Word
  | .word v => some v
  | .bool b => some (if b then 1#32 else 0#32)
  | .byte b => some (b.setWidth 32)
  | _ => none

/-- The value of an expression over the locals `env`, at draw index `n`. A name that holds no 32-bit value reads as a free
value. -/
def evalExpr (env : Locals) (n : Nat) : Expr → Word
  | .lit v => v
  | .loc x => ((env.lookup x).bind Value.word?).getD (Config.unboundLocal n x)
  | .not a => ~~~(evalExpr env n a)
  | .bin op a b => evalBin op (evalExpr env n a) (evalExpr env n b)
  | .ite c a b => if evalExpr env n c = 0#32 then evalExpr env n b else evalExpr env n a
  | .slice hi lo a => ((evalExpr env n a).extractLsb' lo (min (hi + 1) 32 - lo)).setWidth 32

/-! ### GPIO fields (R310 to R312) -/

/-- The register index `k` of a pin's function-select field (R310). -/
def fselReg (p : Nat) : Nat := p / 10
/-- The low bit of a pin's function-select field (R310). -/
def fselShift (p : Nat) : Nat := 3 * (p % 10)
/-- `(v & ~(7 << s)) | (f << s)` for pin `p` (41 R540). -/
def fselInsert (p f : Nat) (v : Word) : Word :=
  (v &&& ~~~(7#32 <<< fselShift p)) ||| (BitVec.ofNat 32 f <<< fselShift p)
/-- The bank `h` of a pin (R311). -/
def pinBank (p : Nat) : Nat := if p < 32 then 0 else 1
/-- The write value `1 << (p % 32)` of a pin (R311). -/
def pinBit (p : Nat) : Word := 1#32 <<< (p % 32)

/-! ### Bus addresses and mailbox words (20 R230, 30 R313) -/

/-- `to_bus(c)`. -/
def toBus (p : Config.Params) (c : Word) : Word := c ||| p.busAlias
/-- `to_cpu(b)`. -/
def toCpu (b : Word) : Word := b &&& Config.busMask
/-- `(bus_address & ~0xF) | P_MBOX_CHANNEL`. -/
def messageWord (bus : Word) : Word := (bus &&& ~~~0xF#32) ||| Config.mboxChannel.setWidth 32
/-- The word that `mbox_call` sends (42 R650). -/
def requestWord (p : Config.Params) : Word := messageWord (toBus p p.mboxBuf)
/-- The channel of a mailbox word, bits 3:0 (R313). -/
def wordChannel (r : Word) : BitVec 4 := r.extractLsb' 0 4
/-- The CPU address of the buffer that a taken word names (42 R640 b). -/
def bufferOf (w : Word) : Nat := (toCpu (w &&& ~~~0xF#32)).toNat

/-- A tag of a property message (R321): its id and the words of its value buffer. -/
structure Tag where
  id : Word
  values : List Word
  deriving DecidableEq, Repr

/-- The `3 + n` words of a tag in a request (R321): id, value buffer size `4n`, code 0, values. -/
def Tag.words (t : Tag) : List Word := t.id :: BitVec.ofNat 32 (4 * t.values.length) :: 0#32 :: t.values

/-- The five tags of the request (R322, 42 R620). -/
def requestTags (p : Config.Params) : List Tag :=
  [⟨0x00048003#32, [p.fbWidth, p.fbHeight]⟩, ⟨0x00048004#32, [p.fbWidth, p.fbHeight]⟩, ⟨0x00048005#32, [p.fbDepth]⟩,
   ⟨0x00040001#32, [16#32, 0#32]⟩, ⟨0x00040008#32, [0#32]⟩]

/-- The request image (42 R620): total size and request code, the tags, the end tag and two words of padding (R320). -/
def requestImage (p : Config.Params) : List Word :=
  [112#32, 0#32] ++ (requestTags p).flatMap Tag.words ++ [0#32, 0#32, 0#32]

/-- The success sentinel of word 1 (R323). -/
def mboxSuccess : Word := 0x80000000#32

/-! ### The baud divisor (45 R925 to R927) -/

/-- `div64(b)`: exact, rounded to nearest (R926). -/
def div64 (clk b : Nat) : Nat := (8 * clk + b) / (2 * b)
/-- `(i, f)` is a valid divisor (R927). -/
def divisorValid (i : BitVec 16) (f : BitVec 6) : Bool :=
  i != 0#16 && !(i == 0xFFFF#16 && f != 0#6)
/-- `1000 * |baud(i, f) - P_BAUD| ≤ P_BAUD_TOL_PERMILLE * P_BAUD` with `baud = 4 * clk / (64 * i + f)` (R915, R925), both
sides times `64 * i + f`, so that the comparison is exact. -/
def baudWithin (p : Config.Params) (n : Nat) : Bool :=
  decide (1000 * ((4 * p.uartClkHz : Int) - (Config.baud * n : Nat)).natAbs ≤ p.baudTolPermille * Config.baud * n)
/-- `baud_ok(i, f)` (R915). -/
def baudOk (p : Config.Params) (i : BitVec 16) (f : BitVec 6) : Bool :=
  divisorValid i f && baudWithin p (64 * i.toNat + f.toNat)

/-! ### Digits (45 R946, R947) -/

/-- The decimal digits of `n`, most significant first, before `acc`; `fuel` bounds how many more than one. -/
def decDigits : Nat → Nat → List Nat → List Nat
  | 0, n, acc => n % 10 :: acc
  | fuel + 1, n, acc => if n < 10 then n :: acc else decDigits fuel (n / 10) (n % 10 :: acc)
/-- The characters of `uart_putdec(v)`. -/
def decChars (v : Word) : List Byte := (decDigits 9 v.toNat []).map (fun d => BitVec.ofNat 8 (0x30 + d))
/-- The character of a hexadecimal digit, upper case. -/
def hexChar (n : Nat) : Byte := if n < 10 then BitVec.ofNat 8 (0x30 + n) else BitVec.ofNat 8 (0x41 + n - 10)
/-- The characters of `uart_puthex(v)`: eight digits, from `k = 7` down to 0. -/
def hexChars (v : Word) : List Byte :=
  [7, 6, 5, 4, 3, 2, 1, 0].map (fun k => hexChar (v.extractLsb' (4 * k) 4).toNat)
/-- The characters of `uart_puts(s)`: LF becomes CR LF (R942). -/
def crlf (bytes : List Byte) : List Byte := bytes.flatMap (fun b => if b = 0x0A#8 then [0x0D#8, 0x0A#8] else [b])

end Sys2Proof.Machine
end

