-- ==== Sys2Proof/Machine/Flags.lean ====
section
/-! DEFINITION. Status flags and derived signals (10_state R113, R127, R140; 42 R602, R603; 44 R801 to R803; 45 R901, R915). -/

namespace Sys2Proof.Machine

open Sys2Proof

/-! ### UART -/

/-- Bit numbers of the UART interrupt layout (10 R131). -/
def risRx : Nat := 4
def risTx : Nat := 5
def risRt : Nat := 6
def risFe : Nat := 7
def risPe : Nat := 8
def risBe : Nat := 9
def risOe : Nat := 10
def risCts : Nat := 1

/-- `U.cr` fields (10 R129). -/
def Uart.enabled (u : Uart) : Bool := u.cr.getLsbD 0
def Uart.loopback (u : Uart) : Bool := u.cr.getLsbD 7
def Uart.txEnabled (u : Uart) : Bool := u.cr.getLsbD 8
def Uart.rxEnabled (u : Uart) : Bool := u.cr.getLsbD 9
/-- `U.lcrh.FEN` (10 R128). -/
def Uart.fifosOn (u : Uart) : Bool := u.lcrh.getLsbD 4

/-- `cap` (45 R901). -/
def Uart.cap (u : Uart) : Nat := if u.fifosOn then Config.uartFifoDepth else 1
/-- `rx_trig` (45 R901). A reserved RXIFLSEL code has no level in the spec: a free value. -/
def Uart.rxTrig (u : Uart) : Nat :=
  if u.fifosOn then
    match ([1, 2, 4, 6, 7] : List Nat)[(u.ifls.extractLsb' 3 3).toNat]? with
    | some k => u.cap * k / 8
    | none => Config.reservedTrigger (u.ifls.extractLsb' 3 3)
  else 1

/-- The bits of UART_FR that are not draws: RXFE, TXFF, RXFF, TXFE, and BUSY when the FIFO holds a byte (10 R127). -/
def frMask (u : Uart) : Word := if u.txq = [] then 0xF0#32 else 0xF8#32
/-- Their values (10 R127, 45 R906). -/
def frValue (u : Uart) : Word :=
  ofBits 32 fun b =>
    if b = 3 then decide (u.txq ≠ [])
    else if b = 4 then decide (u.rxq = [])
    else if b = 5 then decide (u.txq.length = u.cap)
    else if b = 6 then decide (u.rxq.length = u.cap)
    else if b = 7 then decide (u.txq = [])
    else false

/-- `uart_intr = (U.ris & U.imsc) != 0` (10 R113). -/
def Uart.intr (u : Uart) : Bool := (u.ris &&& u.imsc) != 0#11

/-- `frame_ok` (45 R915). -/
def frameOk (s : State) : Bool :=
  let l := s.uart.lcrEff.lcrh
  s.uart.enabled && s.uart.lcrOk && (l.extractLsb' 5 2 == 0b11#2) && !l.getLsbD 1 && !l.getLsbD 3 && !l.getLsbD 0 &&
    baudOk s.params s.uart.lcrEff.ibrd s.uart.lcrEff.fbrd
/-- `line_ok_tx` (45 R915). -/
def lineOkTx (s : State) : Bool :=
  frameOk s && s.uart.txEnabled && (s.gpio.fsel[Config.uartTxPin] == Config.uartAlt)
/-- `line_ok_rx` (45 R915). -/
def lineOkRx (s : State) : Bool :=
  frameOk s && s.uart.rxEnabled && (s.gpio.fsel[Config.uartRxPin] == Config.uartAlt)

/-! ### Mailbox -/

/-- Bits 31 and 30 of a mailbox status word (42 R602, R603): FULL and EMPTY. -/
def mboxFlags (depth : Nat) (q : List Word) : Word :=
  ofBits 32 fun b =>
    if b = 31 then decide (q.length = depth) else if b = 30 then decide (q = []) else false

/-! ### Interrupt sources and pending bits -/

/-- `gpu_irq[i]` (10 R113, 43 R720): the timer's match flags, the UART, and draws. -/
def gpuIrq (s : State) (i : Nat) : Bool :=
  if i < 4 then s.timer.m.getLsbD i
  else if i = 57 then s.uart.intr
  else (Config.outsideGpuIrq s.draws).getLsbD i
/-- `arm_irq[j]` (10 R113). -/
def armIrq (s : State) (j : Nat) : Bool := (Config.armIrq s.draws).getLsbD j
/-- `en[i]` (44 R801, 30 R316). -/
def gpuEnabled (s : State) (i : Nat) : Bool :=
  if i < 32 then s.intc.en1.getLsbD i else s.intc.en2.getLsbD (i - 32)
/-- `pend_gpu[i]` (44 R801). -/
def pendGpu (s : State) (i : Nat) : Bool := (!s.params.pendingMasked || gpuEnabled s i) && gpuIrq s i
/-- `pend_arm[j]` (44 R801). -/
def pendArm (s : State) (j : Nat) : Bool := (!s.params.pendingMasked || s.intc.enb.getLsbD j) && armIrq s j

/-- The GPU sources that show in bits 10..20 of IRQ_BASIC_PENDING (10 R124). -/
def shortcuts : List Nat := [7, 9, 10, 18, 19, 53, 54, 55, 56, 57, 62]
/-- Bits 20:0 of IRQ_BASIC_PENDING (44 R802). -/
def basicPending (s : State) : Word :=
  ofBits 32 fun b =>
    if b < 8 then pendArm s b
    else if b = 8 then (List.range 32).any fun i => !shortcuts.contains i && pendGpu s i
    else if b = 9 then (List.range 32).any fun i => !shortcuts.contains (32 + i) && pendGpu s (32 + i)
    else if b < 21 then
      match shortcuts[b - 10]? with
      | some i => pendGpu s i
      | none => false
    else false

/-- `irq_line` (44 R803). It does not depend on `P_PENDING_MASKED`. -/
def irqLine (s : State) : Bool :=
  ((List.range 64).any fun i => gpuEnabled s i && gpuIrq s i) ||
    ((List.range 8).any fun j => s.intc.enb.getLsbD j && armIrq s j)

end Sys2Proof.Machine
end

