-- ==== Sys2Proof/Machine/Ops.lean ====
section
/-! DEFINITION. The operations the meanings share: the cost of a CPU step, draws, RAM, locals, the end of a read, and taking and
returning from an exception (60_exceptions R1020, R1030). -/

namespace Sys2Proof.Machine

open Sys2Proof

/-- What a step answers. -/
abbrev Result := Host.Outcome State Fault Refusal

/-! ### The cost of a CPU step, draws -/

/-- The end of a CPU step of at least `n` cycles: `S.cyc` grows by a draw at or above `max n 1` (10 R104, 40 R400, R424), and
the next step has the next draw. -/
def State.retire (n : Nat) (s : State) : State :=
  { s with cyc := s.cyc + (max n 1 + Config.extraCycles s.draws), draws := s.draws + 1 }

/-- The next draw: what the step of an agent other than the CPU uses up. -/
def State.skip (s : State) : State := s.setDraws (s.draws + 1)

/-- A read value whose bits in `mask` are those of `v` and whose other bits are draws (40 R407). -/
def withDraw (mask v : Word) (s : State) : Word := (v &&& mask) ||| (Config.draw s.draws &&& ~~~mask)

/-! ### RAM (10 R112, 20 R210; log 12) -/

/-- The byte of the request image at an address (42 R620, 10 R112): all that an unlisted address has of its own. -/
def imageByte (p : Config.Params) (a : Nat) : Option Byte :=
  if p.mboxBuf.toNat ≤ a ∧ a < p.mboxBuf.toNat + 112 then
    ((requestImage p)[(a - p.mboxBuf.toNat) / 4]?).map
      (fun w => w.extractLsb' (8 * ((a - p.mboxBuf.toNat) % 4)) 8)
  else none

/-- The listed byte at an address. -/
def Memory.lookup (m : Memory) (a : Nat) : Option Byte := List.lookup a m

/-- `m` without the entry at `a`. -/
def Memory.erase : Memory → Nat → Memory
  | [], _ => []
  | c :: m, a => if c.1 = a then m else c :: Memory.erase m a

/-- `m` with `b` listed at `a`, in rising order. -/
def Memory.insert : Memory → Nat → Byte → Memory
  | [], a, b => [(a, b)]
  | c :: m, a, b =>
    if a < c.1 then (a, b) :: c :: m
    else if c.1 = a then (a, b) :: m
    else c :: Memory.insert m a b

/-- `m` with `b` at `a`, in canonical form: a byte that an unlisted address reads as is not listed. -/
def Memory.put (p : Config.Params) (m : Memory) (a : Nat) (b : Byte) : Memory :=
  if imageByte p a = some b then m.erase a else m.insert a b

/-- The canonical form: addresses strictly rising and below 2^32, no entry equal to what an unlisted address reads as. -/
def Memory.wf (p : Config.Params) : Memory → Bool
  | [] => true
  | c :: m =>
    decide (c.1 < 4294967296) && (imageByte p c.1 != some c.2) && m.all (fun d => decide (c.1 < d.1)) && Memory.wf p m

/-- `Mem[a]`: the listed byte, else the image byte, else the entry draw. -/
def State.byteAt (s : State) (a : Nat) : Byte :=
  match s.mem.lookup a with
  | some b => b
  | none => (imageByte s.params a).getD (Config.ramAtEntry a)

/-- `Mem[a] <- b`. -/
def State.putByte (s : State) (a : Nat) (b : Byte) : State := s.setMem (s.mem.put s.params a b)

/-- `MemRead(a, 4)`: little-endian (20 R210). -/
def State.wordAt (s : State) (a : Nat) : Word :=
  s.byteAt (a + 3) ++ s.byteAt (a + 2) ++ s.byteAt (a + 1) ++ s.byteAt a

/-- `MemWrite(a, 4, v)`: `Mem[a+i] <- v[8i+7:8i]` (20 R210, 40 R411). -/
def State.putWord (s : State) (a : Nat) (v : Word) : State :=
  (((s.putByte a (v.extractLsb' 0 8)).putByte (a + 1) (v.extractLsb' 8 8)).putByte (a + 2) (v.extractLsb' 16 8)).putByte
    (a + 3) (v.extractLsb' 24 8)

/-- The check that LDW and STW share (20 R211, 40 R410): aligned and below `P_PERIPH_BASE`. -/
def ramFault (s : State) (a : Nat) : Option Refusal :=
  if a % 4 ≠ 0 then some (.misalignedAddress a)
  else if s.params.periphBase.toNat ≤ a then some (.outsideRam a)
  else none

/-! ### Locals (10 R100; log 18) -/

/-- The locals of the program text that is running: the first one of the continuation. -/
def scopeLocals : List Task → Locals
  | [] => []
  | .code _ env :: _ => env
  | _ :: ts => scopeLocals ts

/-- `env` with local `x` holding `v`. -/
def bindLocal (x : Nat) (v : Value) (env : Locals) : Locals := (x, v) :: env.filter (fun p => p.1 != x)

/-- Binds local `x` of the program text that is running. -/
def bindScope (x : Nat) (v : Value) : List Task → List Task
  | [] => []
  | .code ws env :: ts => .code ws (bindLocal x v env) :: ts
  | t :: ts => t :: bindScope x v ts

/-- A task with nothing left in it: program text that has ended. -/
def Task.ended : Task → Bool
  | .code [] _ => true
  | _ => false

/-- The value of an operand expression. -/
def State.eval (s : State) (e : Expr) : Word := evalExpr (scopeLocals s.cpu.cont) s.draws e

/-- Puts tasks before what is still to run: the expansion of a driver operation (10 R102). -/
def State.push (ts : List Task) (s : State) : State := s.setCont (ts ++ s.cpu.cont)

/-- `call S.input_handler(c)` (44 R871, R872). -/
def handlerTasks : Handler → Byte → List Task
  | .echo, c => [.op (.echo (.lit (c.setWidth 32)))]
  | .table rows, c =>
    match rows[c.toNat]? with
    | some ws => [.code ws []]
    | none => []

/-- `return v` of a driver operation (10 R101): binds a local, or hands the byte to the drain loop (44 R871). -/
def giveResult (r : Ret) (v : Value) (s : State) : State :=
  match r with
  | .loc x => s.setCont (bindScope x v s.cpu.cont)
  | .drain =>
    match v with
    | .optByte (some c) => s.push (handlerTasks s.soft.inputHandler c ++ [.op (.uartGetcNb .drain)])
    | _ => s

/-! ### Exceptions (60 R1002, R1012, R1020, R1030) -/

/-- The eight vectors (R1002). -/
inductive Exception where
  | reset | undefined | supervisorCall | prefetchAbort | dataAbort | unused | irq | fiq
  deriving DecidableEq, Repr

/-- The offset of a vector from `S.vbar` (R1002). -/
def Exception.offset : Exception → Word
  | .reset => 0x00#32
  | .undefined => 0x04#32
  | .supervisorCall => 0x08#32
  | .prefetchAbort => 0x0C#32
  | .dataAbort => 0x10#32
  | .unused => 0x14#32
  | .irq => 0x18#32
  | .fiq => 0x1C#32

/-- The address of a vector. -/
def State.vectorAddress (s : State) (e : Exception) : Word := s.cpu.vbar + e.offset

/-- What the IRQ vector is bound to (R1011): `[handle_irq(); IRET]`. -/
def irqVector : List Task := [.op .handleIrq, .op .iret]

/-- Takes an exception. IRQ entry (R1020) is a CPU step: it saves the continuation and the mask, masks IRQs, enters context `Irq`
and continues at the IRQ vector; with no table installed it faults. Every other vector faults (R1012). -/
def takeException (e : Exception) (s : State) : Result :=
  match e with
  | .irq =>
    if s.cpu.vbarSet then
      .next ((s.setCpu { s.cpu with
        saved := some s.cpu.cont, savedMask := s.cpu.irqMask, irqMask := true, ctx := .irq, cont := irqVector }).retire 1)
    else .fault .irqWithoutTable
  | _ => .fault .unexpectedException

/-- Returns from the exception (40 R425, 60 R1030): a fault outside context `Irq`. -/
def returnException (s : State) : Result :=
  if s.cpu.ctx = .irq then
    .next ((s.setCpu { s.cpu with
      cont := s.cpu.saved.getD [], saved := none, irqMask := s.cpu.savedMask, ctx := .fg }).retire 1)
  else .fault .iretOutsideIrq

end Sys2Proof.Machine
end

