-- ==== Sys2Proof/Machine/Resume.lean ====
section
/-! DEFINITION. What happens when the value of a read is known: the control flow of the expansions (10_state R102, 00_scope R34),
one case per point of an expansion that waits for a value. It is part of the read's own step and has no cost. -/

namespace Sys2Proof.Machine

open Sys2Proof

/-- `RD32 GPFSEL(k)` (41 R540). -/
def rdGpfsel (k : Nat) (d : Dest) : Instr :=
  match k with
  | 0 => .rd32Gpfsel0 d
  | 1 => .rd32Gpfsel1 d
  | 2 => .rd32Gpfsel2 d
  | 3 => .rd32Gpfsel3 d
  | 4 => .rd32Gpfsel4 d
  | _ => .rd32Gpfsel5 d

/-- `WR32 GPFSEL(k), v` (41 R540). -/
def wrGpfsel (k : Nat) (v : Expr) : Instr :=
  match k with
  | 0 => .wr32Gpfsel0 v
  | 1 => .wr32Gpfsel1 v
  | 2 => .wr32Gpfsel2 v
  | 3 => .wr32Gpfsel3 v
  | 4 => .wr32Gpfsel4 v
  | _ => .wr32Gpfsel5 v

/-- `LDW P_MBOX_BUF + 4 * k` (42 R650). -/
def ldMboxWord (p : Config.Params) (k : Nat) (d : Dest) : Task :=
  .op (.ldw (.lit (p.mboxBuf + BitVec.ofNat 32 (4 * k))) d)

/-- The surface that a successful `mbox_call` sets and returns (42 R650): the base is masked by `P_BUS_MASK`. -/
def mboxSurface (base width height size pitch : Word) : DisplaySurface :=
  { width := width, height := height, pitch := pitch, buffer := toCpu base, size := size }

/-- The phases of `timer_sleep_us(us)` after the `start` read (43 R732): phase 1 only when the sum wraps. -/
def sleepTasks (start us : Word) : List Task :=
  if (start + us).toNat < start.toNat then [.op (.rd32StClo (.sleepWrap start (start + us)))]
  else [.op (.rd32StClo (.sleepUntil (start + us)))]

/-- The value `v` of a read arrives at `d`. What a rule writes between two accesses happens here, in the step of the read before it;
so does `S.surface <- s` of `mbox_call`, for which R650 marks no step of its own (DEDUCED: log 9). -/
def deliver (d : Dest) (v : Word) (s : State) : State :=
  match d with
  | .ret r => giveResult r (.word v) s
  | .ignore => s
  -- 41 R540
  | .fselModify p f => s.push [.op (wrGpfsel (fselReg p) (.lit (fselInsert p f v)))]
  -- 41 R542
  | .levelBit b r => giveResult r (.bool (v.getLsbD b)) s
  -- 42 R650
  | .mboxOutStatus r =>
    if v.getLsbD 31 then s.push [.op (.rd32Mbox1Status (.mboxOutStatus r))]
    else s.push [.op (.wr32Mbox1Write (.lit (requestWord s.params))), .op (.rd32Mbox0Status (.mboxInStatus r))]
  | .mboxInStatus r =>
    if v.getLsbD 30 then s.push [.op (.rd32Mbox0Status (.mboxInStatus r))]
    else s.push [.op (.rd32Mbox0Read (.mboxReply r))]
  | .mboxReply r =>
    if wordChannel v ≠ Config.mboxChannel then s.push [.op (.rd32Mbox0Status (.mboxInStatus r))]
    else if v ≠ requestWord s.params then giveResult r .mboxFailed s
    else s.push [ldMboxWord s.params 1 (.mboxCode r)]
  | .mboxCode r =>
    if v ≠ mboxSuccess then giveResult r .mboxFailed s else s.push [ldMboxWord s.params 19 (.mboxBase r)]
  | .mboxBase r =>
    if v = 0#32 then giveResult r .mboxFailed s else s.push [ldMboxWord s.params 5 (.mboxWidth r v)]
  | .mboxWidth r base => s.push [ldMboxWord s.params 6 (.mboxHeight r base v)]
  | .mboxHeight r base width => s.push [ldMboxWord s.params 20 (.mboxSize r base width v)]
  | .mboxSize r base width height => s.push [ldMboxWord s.params 24 (.mboxPitch r base width height v)]
  -- 42 R650: the call's last LDW; `S.surface <- s` and `return Ok(s)` in its step (log 9)
  | .mboxPitch r base width height size =>
    giveResult r (.mboxOk (mboxSurface base width height size v))
      (s.setSoft { s.soft with surface := some (mboxSurface base width height size v) })
  -- 43 R731
  | .now64Hi r => s.push [.op (.rd32StClo (.now64Lo r v))]
  | .now64Lo r hi => s.push [.op (.rd32StChi (.now64Hi2 r hi v))]
  | .now64Hi2 r hi lo =>
    if v = hi then giveResult r (.dword (hi ++ lo)) s else s.push [.op (.rd32StChi (.now64Hi r))]
  -- 43 R732
  | .sleepStart us => s.push (sleepTasks v us)
  | .sleepWrap start target =>
    if v.toNat < start.toNat then s.push [.op (.rd32StClo (.sleepUntil target))]
    else s.push [.op (.rd32StClo (.sleepWrap start target))]
  | .sleepUntil target =>
    if target.toNat ≤ v.toNat then s else s.push [.op (.rd32StClo (.sleepUntil target))]
  -- 43 R734, R735
  | .armNow ms => s.push [.op (.wr32StC1 (.lit (v + ms * 1000#32)))]
  | .rearm => s.push [.op (.wr32StC1 (.lit (v + Config.periodUs)))]
  -- 44 R870
  | .irqPending1 => s.push [.op (.rd32IrqPending2 (.irqPending2 v))]
  | .irqPending2 p1 =>
    s.push ((if p1.getLsbD Config.timerChannel then [.op .timerOnInterrupt] else []) ++
      (if v.getLsbD (57 - 32) then [.op .uartDrain] else []))
  -- 45 R941, R943, R944
  | .putcReady c =>
    if v.getLsbD 5 then s.push [.op (.rd32UartFr (.putcReady c))]
    else s.push [.op (.wr32UartDr (.lit (c.setWidth 32)))]
  | .getcReady r =>
    if v.getLsbD 4 then s.push [.op (.rd32UartFr (.getcReady r))] else s.push [.op (.rd32UartDr (.getcByte r))]
  | .getcByte r => giveResult r (.byte (v.setWidth 8)) s
  | .getcNbFlag r =>
    if v.getLsbD 4 then giveResult r (.optByte none) s else s.push [.op (.rd32UartDr (.getcNbByte r))]
  | .getcNbByte r => giveResult r (.optByte (some (v.setWidth 8))) s

/-- A read primitive that gives `v` and leaves `s'` (before its cost): the value arrives in the same step (40 R401). -/
def readInto (d : Dest) (v : Word) (s' : State) : Result := .next (deliver d v (s'.retire 1))

/-- A read primitive with no side effect whose bits in `mask` are those of `v`; the others are draws. -/
def readReg (d : Dest) (mask v : Word) (s : State) : Result := readInto d (withDraw mask v s) s

/-- A read of a write-only register (40 R406): a draw, and no state changes. -/
def readWriteOnly (d : Dest) (s : State) : Result := readReg d 0#32 0#32 s

/-- A write primitive that leaves `s'` (before its cost). -/
def wrote (s' : State) : Result := .next (s'.retire 1)

/-- A write to a read-only register (40 R405): no state changes but `S.cyc`, whatever the value. -/
def writeReadOnly (_v : Expr) (s : State) : Result := wrote s

/-- A driver operation: it is replaced by its expansion (10 R102), at no cost. -/
def expandTo (ts : List Task) (s : State) : Result := .next (s.push ts)

end Sys2Proof.Machine
end

