-- ==== Sys2Proof/Machine/Mbox.lean ====
section
/-! DEFINITION. The mailbox (42_mailbox): registers, the GPU agent, the driver operations. -/

namespace Sys2Proof.Machine

open Sys2Proof

/-! ### Registers -/

/-- R600: pops the head; an empty FIFO gives a draw and pops nothing. -/
def execRd32Mbox0Read (d : Dest) (s : State) : Result :=
  match s.mbox.inq with
  | [] => readReg d 0#32 0#32 s
  | w :: ws => readInto d w (s.setMbox { s.mbox with inq := ws })
/-- R601. -/
def execRd32Mbox0Peek (d : Dest) (s : State) : Result :=
  match s.mbox.inq with
  | [] => readReg d 0#32 0#32 s
  | w :: _ => readInto d w s
/-- R602. -/
def execRd32Mbox0Status (d : Dest) (s : State) : Result :=
  readReg d 0xC0000000#32 (mboxFlags s.params.mboxDepth s.mbox.inq) s
/-- R603. -/
def execRd32Mbox1Status (d : Dest) (s : State) : Result :=
  readReg d 0xC0000000#32 (mboxFlags s.params.mboxDepth s.mbox.outq) s
/-- R604: a fault when the FIFO is full. -/
def execWr32Mbox1Write (v : Expr) (s : State) : Result :=
  if s.mbox.outq.length = s.params.mboxDepth then .fault .mboxOverflow
  else wrote (s.setMbox { s.mbox with outq := s.mbox.outq ++ [s.eval v] })
/-- 40 R405: pops nothing. -/
def execWr32Mbox0Read (v : Expr) (s : State) : Result := writeReadOnly v s
/-- 40 R405. -/
def execWr32Mbox0Peek (v : Expr) (s : State) : Result := writeReadOnly v s
/-- 40 R405. -/
def execWr32Mbox0Status (v : Expr) (s : State) : Result := writeReadOnly v s
/-- 40 R405. -/
def execWr32Mbox1Status (v : Expr) (s : State) : Result := writeReadOnly v s
/-- 40 R406: pushes nothing. -/
def execRd32Mbox1Write (d : Dest) (s : State) : Result := readWriteOnly d s

/-! ### The GPU agent -/

/-- Take (R640 a): enabled when the GPU is idle and a request waits. -/
def gpuTake (s : State) : State :=
  match s.mbox.gpu, s.mbox.outq with
  | none, w :: ws => s.setMbox { s.mbox with gpu := some w, outq := ws }
  | _, _ => s

/-- Whether the GPU may push a word (R640 b, R642): `|M.in| < P_MBOX_DEPTH`. -/
def gpuMayPush (s : State) : Bool := decide (s.mbox.inq.length < s.params.mboxDepth)

/-- The GPU's writes into the 28 words of the buffer at CPU address `base`; a word that is no RAM is not written (R640 b, 20 R231;
log 16). -/
def gpuWrites (base : Nat) (words : List (Nat × Word)) (s : State) : State :=
  words.foldl (fun t w =>
    if w.1 < 28 ∧ base + 4 * w.1 + 4 ≤ t.params.periphBase.toNat then t.putWord (base + 4 * w.1) w.2 else t) s

/-- Respond (R640 b, R643): enabled when the GPU holds a word and may push; it writes the buffer and pushes `r`. -/
def gpuRespond (words : List (Nat × Word)) (r : Word) (s : State) : State :=
  match s.mbox.gpu with
  | some w =>
    if gpuMayPush s then
      (gpuWrites (bufferOf w) words s).setMbox { s.mbox with inq := s.mbox.inq ++ [r], gpu := none }
    else s
  | none => s

/-- A spurious message (R642): a word of another channel. -/
def gpuSpurious (r : Word) (s : State) : State :=
  if gpuMayPush s ∧ wordChannel r ≠ Config.mboxChannel then
    s.setMbox { s.mbox with inq := s.mbox.inq ++ [r] }
  else s

/-- The GPU's channel of the timer: 2 or 0 (43 R712). -/
def gpuChannel (two : Bool) : Fin 4 := if two then 2 else 0
/-- The GPU writes `T.cmp[0]` or `T.cmp[2]` (43 R712). -/
def gpuCompare (two : Bool) (v : Word) (s : State) : State :=
  s.setTimer { s.timer with cmp := s.timer.cmp.set (gpuChannel two) v }
/-- The GPU clears `T.m[0]` or `T.m[2]` (43 R712). -/
def gpuClearMatch (two : Bool) (s : State) : State :=
  s.setTimer { s.timer with m := putBit s.timer.m (gpuChannel two).val false }

/-! ### Driver operations -/

/-- R650. The request is sent once (R651), from the buffer as it stands (R621). -/
def execMboxCall (r : Ret) (s : State) : Result :=
  expandTo [.op .dmb, .op (.rd32Mbox1Status (.mboxOutStatus r))] s

/-- R652: a fault before a successful `mbox_call`; no bus access. -/
def execGetDisplaySurface (r : Ret) (s : State) : Result :=
  match s.soft.surface with
  | some d => .next (giveResult r (.surface d) s)
  | none => .fault .noSurface

end Sys2Proof.Machine
end

