-- ==== Sys2Proof/Machine/Timer.lean ====
section
/-! DEFINITION. The system timer (43_timer): the counter agent, the registers and the driver operations. -/

namespace Sys2Proof.Machine

open Sys2Proof

/-! ### The timer agent -/

/-- One microsecond (R710): the counter goes up by one, and the flag of every channel whose compare value it reaches is set. -/
def timerTick (t : Timer) : Timer :=
  { t with
    cnt := t.cnt + 1#64
    m := t.m ||| ofBits 4 fun n => if h : n < 4 then (t.cnt + 1#64).setWidth 32 == t.cmp[n] else false }

/-- A write of `T.cmp[n]`. -/
def writeCompare (n : Fin 4) (v : Expr) (s : State) : Result :=
  wrote (s.setTimer { s.timer with cmp := s.timer.cmp.set n (s.eval v) })
/-- A read of `T.cmp[n]`. -/
def readCompare (n : Fin 4) (d : Dest) (s : State) : Result := readReg d 0xFFFFFFFF#32 s.timer.cmp[n] s

/-! ### Registers -/

/-- R701. -/
def execRd32StCs (d : Dest) (s : State) : Result := readReg d 0xF#32 (s.timer.m.setWidth 32) s
/-- R702: write one to clear. -/
def execWr32StCs (v : Expr) (s : State) : Result :=
  wrote (s.setTimer { s.timer with m := s.timer.m &&& ~~~((s.eval v).setWidth 4) })
/-- R703. -/
def execRd32StClo (d : Dest) (s : State) : Result := readReg d 0xFFFFFFFF#32 (s.timer.cnt.setWidth 32) s
/-- R704. -/
def execRd32StChi (d : Dest) (s : State) : Result := readReg d 0xFFFFFFFF#32 (s.timer.cnt.extractLsb' 32 32) s
/-- R705. -/
def execRd32StC0 (d : Dest) (s : State) : Result := readCompare 0 d s
/-- R706. -/
def execRd32StC1 (d : Dest) (s : State) : Result := readCompare 1 d s
/-- R707. -/
def execRd32StC2 (d : Dest) (s : State) : Result := readCompare 2 d s
/-- R708. -/
def execRd32StC3 (d : Dest) (s : State) : Result := readCompare 3 d s
/-- R715. -/
def execWr32StC0 (v : Expr) (s : State) : Result := writeCompare 0 v s
/-- R716. -/
def execWr32StC1 (v : Expr) (s : State) : Result := writeCompare 1 v s
/-- R717. -/
def execWr32StC2 (v : Expr) (s : State) : Result := writeCompare 2 v s
/-- R718. -/
def execWr32StC3 (v : Expr) (s : State) : Result := writeCompare 3 v s
/-- 40 R405. -/
def execWr32StClo (v : Expr) (s : State) : Result := writeReadOnly v s
/-- 40 R405. -/
def execWr32StChi (v : Expr) (s : State) : Result := writeReadOnly v s

/-! ### Driver operations -/

/-- R730. -/
def execTimerNowUs (r : Ret) (s : State) : Result := expandTo [.op (.rd32StClo (.ret r))] s
/-- R731: high, low, high, again while the two high reads differ. -/
def execTimerNowUs64 (r : Ret) (s : State) : Result := expandTo [.op (.rd32StChi (.now64Hi r))] s
/-- R732. -/
def execTimerSleepUs (us : Expr) (s : State) : Result := expandTo [.op (.rd32StClo (.sleepStart (s.eval us)))] s
/-- R733: `d * 1000` modulo 2^32. -/
def execTimerSleepMs (ms : Expr) (s : State) : Result :=
  expandTo [.op (.timerSleepUs (.lit (s.eval ms * 1000#32)))] s
/-- R734. -/
def execTimerArmPeriodic (ms : Expr) (s : State) : Result := expandTo [.op (.rd32StClo (.armNow (s.eval ms)))] s
/-- R735. -/
def execTimerOnInterrupt (s : State) : Result :=
  expandTo [.op (.wr32StCs (.lit (1#32 <<< Config.timerChannel))), .tickStep, .op (.rd32StClo .rearm)] s
/-- R736: `return S.tick`, one CPU step. -/
def execTicksMs (r : Ret) (s : State) : Result := .next (giveResult r (.word s.soft.tick) (s.retire 1))

/-- The step `S.tick <- (S.tick + 1) mod 2^32` of R735: one CPU step with no bus access. -/
def runTickStep (s : State) : Result := wrote (s.setSoft { s.soft with tick := s.soft.tick + 1#32 })

end Sys2Proof.Machine
end

