-- ==== Sys2Proof/Machine/Gpio.lean ====
section
/-! DEFINITION. GpioPort (41_gpio): function select, output, level and pull registers, and their driver operations. -/

namespace Sys2Proof.Machine

open Sys2Proof

/-! ### Shared definitions -/

/-- The bits of GPFSEL(k) that hold fields: 29:0, and 11:0 for k = 5 (R501). -/
def fselMask (k : Nat) : Word := if k = 5 then 0x00000FFF#32 else 0x3FFFFFFF#32
/-- `FselWord(k)` without its reserved bits (R501): bits `3j+2:3j` hold `G.fsel[10k+j]`. -/
def fselWord (g : Gpio) (k : Nat) : Word :=
  ofBits 32 fun b =>
    if h : 10 * k + b / 3 < 54 then decide (b < 30) && (g.fsel[10 * k + b / 3]).getLsbD (b % 3) else false
/-- `FselWrite(k, v)` (R502): `G.fsel[p] <- v[3j+2:3j]` for the pins `p = 10k + j` of the register. -/
def fselWrite (g : Gpio) (k : Nat) (v : Word) : Gpio :=
  { g with fsel := Vector.ofFn fun p => if p.val / 10 = k then v.extractLsb' (3 * (p.val % 10)) 3 else g.fsel[p] }
/-- A read of GPFSEL(k). -/
def readFsel (k : Nat) (d : Dest) (s : State) : Result := readReg d (fselMask k) (fselWord s.gpio k) s
/-- A write of GPFSEL(k). -/
def writeFsel (k : Nat) (v : Expr) (s : State) : Result := wrote (s.setGpio (fselWrite s.gpio k (s.eval v)))

/-- `decode(G.pud)` (R516). -/
def decodePull (pud : BitVec 2) : Pull :=
  if pud = 0#2 then .off else if pud = 1#2 then .down else if pud = 2#2 then .up else .unknown
/-- What a pad samples at an edge (R516 a): the pull control, if it has been set up for `P_PUD_HOLD` cycles. Code 3, which
only the entry draw can hold, has no stated pull: a free value (log 2). -/
def sampledPull (s : State) : Pull :=
  if Config.pudHold ≤ s.cyc - s.gpio.pudT then
    if s.gpio.pud = 3#2 then decodePull (Config.reservedPull s.draws) else decodePull s.gpio.pud
  else .unknown
/-- Whether a change of GPPUD breaks the hold time of pin `p` (R516 b). -/
def breaksHold (s : State) (p : Fin 54) : Bool :=
  s.gpio.pudclk.getLsbD p.val && decide (s.cyc - s.gpio.clkT[p] < Config.pudHold)
/-- The GPIO state after a write of `mode` to GPPUD (R516 b, R517): the value already held changes no
pull (R517). -/
def pudWrite (s : State) (mode : BitVec 2) : Gpio :=
  { s.gpio with
    pull := if mode = s.gpio.pud then s.gpio.pull
      else Vector.ofFn fun p => if breaksHold s p then .unknown else s.gpio.pull[p]
    pud := mode
    pudT := s.cyc }
/-- Whether a write of `v` to GPPUDCLK(h) gives pin `p` a 0-to-1 edge (R516 a, R521, R522). -/
def clockEdge (g : Gpio) (h : Nat) (v : Word) (p : Nat) : Bool :=
  decide (pinBank p = h) && !g.pudclk.getLsbD p && v.getLsbD (p % 32)
/-- The GPIO state after a write of `v` to GPPUDCLK(h) (R516 a, c): "writing 0 removes the clock and keeps the pull"
(R521). How 70 R1110 is read beside this: log 25. -/
def pudclkWrite (s : State) (h : Nat) (v : Word) : Gpio :=
  { s.gpio with
    cand := Vector.ofFn fun p => if clockEdge s.gpio h v p.val then sampledPull s else s.gpio.cand[p]
    pull := Vector.ofFn fun p => if clockEdge s.gpio h v p.val then sampledPull s else s.gpio.pull[p]
    clkT := Vector.ofFn fun p => if clockEdge s.gpio h v p.val then s.cyc else s.gpio.clkT[p]
    pudclk := ofBits 54 fun p => if pinBank p = h then v.getLsbD (p % 32) else s.gpio.pudclk.getLsbD p }

/-- The pins that a value of bank `h` names: bits 31:0 are pins 0..31, bits 21:0 of bank 1 are pins 32..53 (R311). -/
def bankPins (h : Nat) (v : Word) : BitVec 54 :=
  if h = 0 then v.setWidth 54 else ((v.extractLsb' 0 22).setWidth 54) <<< 32
/-- A write of GPSET(h) (R523, R524). -/
def setOutputs (h : Nat) (v : Expr) (s : State) : Result :=
  wrote (s.setGpio { s.gpio with out := s.gpio.out ||| bankPins h (s.eval v) })
/-- A write of GPCLR(h) (R525, R526). -/
def clearOutputs (h : Nat) (v : Expr) (s : State) : Result :=
  wrote (s.setGpio { s.gpio with out := s.gpio.out &&& ~~~(bankPins h (s.eval v)) })

/-- `G.fsel[p] = 0b001`: the pin is an output (R500). -/
def isOutput (g : Gpio) (p : Nat) : Bool := if h : p < 54 then g.fsel[p] == 0b001#3 else false
/-- The bits of GPLEV(h) that are not draws: the output pins of the bank (R520). -/
def levelMask (g : Gpio) (h : Nat) : Word :=
  ofBits 32 fun b => decide (32 * h + b < 54) && isOutput g (32 * h + b)
/-- The output latches of the pins of bank `h`. -/
def outputWord (g : Gpio) (h : Nat) : Word := ofBits 32 fun b => g.out.getLsbD (32 * h + b)
/-- A read of GPLEV(h) (R527, R528): `level(p)`, with a fresh draw for a pin that is no output (R520). -/
def readLevels (h : Nat) (d : Dest) (s : State) : Result := readReg d (levelMask s.gpio h) (outputWord s.gpio h) s

/-! ### Function select registers -/

/-- R503. -/
def execRd32Gpfsel0 (d : Dest) (s : State) : Result := readFsel 0 d s
/-- R504. -/
def execRd32Gpfsel1 (d : Dest) (s : State) : Result := readFsel 1 d s
/-- R505. -/
def execRd32Gpfsel2 (d : Dest) (s : State) : Result := readFsel 2 d s
/-- R506. -/
def execRd32Gpfsel3 (d : Dest) (s : State) : Result := readFsel 3 d s
/-- R507. -/
def execRd32Gpfsel4 (d : Dest) (s : State) : Result := readFsel 4 d s
/-- R508. -/
def execRd32Gpfsel5 (d : Dest) (s : State) : Result := readFsel 5 d s
/-- R509. -/
def execWr32Gpfsel0 (v : Expr) (s : State) : Result := writeFsel 0 v s
/-- R510. -/
def execWr32Gpfsel1 (v : Expr) (s : State) : Result := writeFsel 1 v s
/-- R511. -/
def execWr32Gpfsel2 (v : Expr) (s : State) : Result := writeFsel 2 v s
/-- R512. -/
def execWr32Gpfsel3 (v : Expr) (s : State) : Result := writeFsel 3 v s
/-- R513. -/
def execWr32Gpfsel4 (v : Expr) (s : State) : Result := writeFsel 4 v s
/-- R514. -/
def execWr32Gpfsel5 (v : Expr) (s : State) : Result := writeFsel 5 v s

/-! ### Pull control registers -/

/-- R515. -/
def execRd32Gppud (d : Dest) (s : State) : Result := readReg d 0x3#32 (s.gpio.pud.setWidth 32) s
/-- R517. -/
def execWr32Gppud (v : Expr) (s : State) : Result :=
  if (s.eval v).extractLsb' 0 2 = 3#2 then .refused .reservedPud
  else wrote (s.setGpio (pudWrite s ((s.eval v).extractLsb' 0 2)))
/-- R518. -/
def execRd32Gppudclk0 (d : Dest) (s : State) : Result := readReg d 0xFFFFFFFF#32 (s.gpio.pudclk.setWidth 32) s
/-- R519. -/
def execRd32Gppudclk1 (d : Dest) (s : State) : Result :=
  readReg d 0x003FFFFF#32 ((s.gpio.pudclk.extractLsb' 32 22).setWidth 32) s
/-- R521. -/
def execWr32Gppudclk0 (v : Expr) (s : State) : Result := wrote (s.setGpio (pudclkWrite s 0 (s.eval v)))
/-- R522. -/
def execWr32Gppudclk1 (v : Expr) (s : State) : Result := wrote (s.setGpio (pudclkWrite s 1 (s.eval v)))

/-! ### Output set and clear, level read -/

/-- R523. -/
def execWr32Gpset0 (v : Expr) (s : State) : Result := setOutputs 0 v s
/-- R524. -/
def execWr32Gpset1 (v : Expr) (s : State) : Result := setOutputs 1 v s
/-- R525. -/
def execWr32Gpclr0 (v : Expr) (s : State) : Result := clearOutputs 0 v s
/-- R526. -/
def execWr32Gpclr1 (v : Expr) (s : State) : Result := clearOutputs 1 v s
/-- R527. -/
def execRd32Gplev0 (d : Dest) (s : State) : Result := readLevels 0 d s
/-- R528. -/
def execRd32Gplev1 (d : Dest) (s : State) : Result := readLevels 1 d s

/-! ### Direction rows -/

/-- 40 R406. -/
def execRd32Gpset0 (d : Dest) (s : State) : Result := readWriteOnly d s
/-- 40 R406. -/
def execRd32Gpset1 (d : Dest) (s : State) : Result := readWriteOnly d s
/-- 40 R406. -/
def execRd32Gpclr0 (d : Dest) (s : State) : Result := readWriteOnly d s
/-- 40 R406. -/
def execRd32Gpclr1 (d : Dest) (s : State) : Result := readWriteOnly d s
/-- 40 R405. -/
def execWr32Gplev0 (v : Expr) (s : State) : Result := writeReadOnly v s
/-- 40 R405. -/
def execWr32Gplev1 (v : Expr) (s : State) : Result := writeReadOnly v s

/-! ### Driver operations -/

/-- R540: nothing for a pin above 53; else a read and a write of GPFSEL(p / 10). -/
def execGpioSetFunction (p f : Nat) (s : State) : Result :=
  expandTo (if 53 < p then [] else [.op (rdGpfsel (fselReg p) (.fselModify p f))]) s

/-- `WR32 GPSET(h), v` or `WR32 GPCLR(h), v` (R541). -/
def wrOutput (p : Nat) (level : Bool) : Instr :=
  match level, pinBank p with
  | true, 0 => .wr32Gpset0 (.lit (pinBit p))
  | true, _ => .wr32Gpset1 (.lit (pinBit p))
  | false, 0 => .wr32Gpclr0 (.lit (pinBit p))
  | false, _ => .wr32Gpclr1 (.lit (pinBit p))

/-- R541: nothing for a pin above 53; else one write. -/
def execGpioSetOutput (p : Nat) (level : Expr) (s : State) : Result :=
  expandTo (if 53 < p then [] else [.op (wrOutput p (decide (s.eval level ≠ 0#32)))]) s

/-- `RD32 GPLEV(h)` (R542). -/
def rdLevel (p : Nat) (d : Dest) : Instr :=
  match pinBank p with
  | 0 => .rd32Gplev0 d
  | _ => .rd32Gplev1 d

/-- R542: false for a pin above 53, with no access; else a read of GPLEV(h). -/
def execGpioGetInput (p : Nat) (r : Ret) (s : State) : Result :=
  if 53 < p then .next (giveResult r (.bool false) s)
  else expandTo [.op (rdLevel p (.levelBit (p % 32) r))] s

/-- `WR32 GPPUDCLK(h), v` (R543). -/
def wrPudclk (p : Nat) (v : Word) : Instr :=
  match pinBank p with
  | 0 => .wr32Gppudclk0 (.lit v)
  | _ => .wr32Gppudclk1 (.lit v)

/-- The six primitives of `gpio_set_pull(p, mode)` (R543). -/
def pullTasks (p mode : Nat) : List Task :=
  [.op (.wr32Gppud (.lit (BitVec.ofNat 32 mode))), .op (.spin Config.pudHold), .op (wrPudclk p (pinBit p)),
   .op (.spin Config.pudHold), .op (.wr32Gppud (.lit 0#32)), .op (wrPudclk p 0#32)]

/-- R543: nothing for a pin above 53; else the pull sequence. -/
def execGpioSetPull (p mode : Nat) (s : State) : Result := expandTo (if 53 < p then [] else pullTasks p mode) s

end Sys2Proof.Machine
end

