-- ==== Sys2Proof/Machine/UartPort.lean ====
section
/-! DEFINITION. The UART (45_uart): registers, the line agent and the driver operations. -/

namespace Sys2Proof.Machine

open Sys2Proof

/-! ### Data, status and flags -/

/-- Bits 11:0 of a UART_DR read of an entry (10 R132). -/
def rxWord (e : RxEntry) : Word :=
  putBit (putBit (putBit (putBit (e.data.setWidth 32) 8 e.fe) 9 e.pe) 10 e.be) 11 e.oe
/-- `U.rsr <- {oe, be, pe, fe}` (R902). -/
def rxStatus (e : RxEntry) : BitVec 4 :=
  putBit (putBit (putBit (putBit 0#4 0 e.fe) 1 e.pe) 2 e.be) 3 e.oe
/-- The UART after a DR read pops `e` and leaves `rest` (R902, R962, R963). -/
def popRx (u : Uart) (e : RxEntry) (rest : List RxEntry) : Uart :=
  { u with
    rxq := rest
    rsr := rxStatus e
    ris :=
      let r := if rest.length < u.rxTrig then putBit u.ris risRx false else u.ris
      if rest = [] then putBit r risRt false else r }

/-- R902: pops one entry; an empty FIFO gives a draw and pops nothing. -/
def execRd32UartDr (d : Dest) (s : State) : Result :=
  match s.uart.rxq with
  | [] => readReg d 0#32 0#32 s
  | e :: rest => readInto d (withDraw 0xFFF#32 (rxWord e) s) (s.setUart (popRx s.uart e rest))
/-- R903: a fault when the FIFO is full. -/
def execWr32UartDr (v : Expr) (s : State) : Result :=
  if s.uart.txq.length = s.uart.cap then .fault .txOverflow
  else wrote (s.setUart { s.uart with txq := s.uart.txq ++ [(s.eval v).setWidth 8] })
/-- R904. -/
def execRd32UartRsrecr (d : Dest) (s : State) : Result := readReg d 0xF#32 (s.uart.rsr.setWidth 32) s
/-- R905: any value clears the flags. -/
def execWr32UartRsrecr (_v : Expr) (s : State) : Result := wrote (s.setUart { s.uart with rsr := 0#4 })
/-- R906. -/
def execRd32UartFr (d : Dest) (s : State) : Result := readReg d (frMask s.uart) (frValue s.uart) s

/-! ### Line control -/

/-- R907: the staged value. -/
def execRd32UartIbrd (d : Dest) (s : State) : Result := readReg d 0xFFFF#32 (s.uart.ibrd.setWidth 32) s
/-- R908, R913. -/
def execWr32UartIbrd (v : Expr) (s : State) : Result :=
  wrote (s.setUart { s.uart with
    lcrOk := if s.uart.enabled then false else s.uart.lcrOk
    ibrd := (s.eval v).setWidth 16 })
/-- R909: the staged value. -/
def execRd32UartFbrd (d : Dest) (s : State) : Result := readReg d 0x3F#32 (s.uart.fbrd.setWidth 32) s
/-- R910, R913. -/
def execWr32UartFbrd (v : Expr) (s : State) : Result :=
  wrote (s.setUart { s.uart with
    lcrOk := if s.uart.enabled then false else s.uart.lcrOk
    fbrd := (s.eval v).setWidth 6 })
/-- R914. -/
def execRd32UartLcrh (d : Dest) (s : State) : Result := readReg d 0xFF#32 (s.uart.lcrh.setWidth 32) s
/-- The UART after a LCRH write of `l` (R912, R913): it latches the line control; a change of FEN empties both FIFOs. -/
def lcrhWrite (u : Uart) (l : BitVec 8) : Uart :=
  let u' := { u with
    lcrOk := !u.enabled
    lcrh := l
    lcrEff := { ibrd := u.ibrd, fbrd := u.fbrd, lcrh := l } }
  if l.getLsbD 4 = u.fifosOn then u'
  else { u' with txq := [], rxq := [], ris := putBit (putBit u.ris risRx false) risRt false }
/-- R912. -/
def execWr32UartLcrh (v : Expr) (s : State) : Result := wrote (s.setUart (lcrhWrite s.uart ((s.eval v).setWidth 8)))

/-! ### Control and interrupt registers -/

/-- R916; the reserved bits 6:3 (10 R129) are draws (40 R407, D7; log 14). -/
def execRd32UartCr (d : Dest) (s : State) : Result := readReg d 0xFF87#32 (s.uart.cr.setWidth 32) s
/-- R917: IrDA and hardware flow control are refused; the reserved bits 6:3 (10 R129) are ignored (40 R407, D7; log 14). -/
def execWr32UartCr (v : Expr) (s : State) : Result :=
  if (s.eval v).getLsbD 1 || (s.eval v).getLsbD 2 || (s.eval v).getLsbD 14 || (s.eval v).getLsbD 15 then
    .refused .unmodelledUartMode
  else wrote (s.setUart { s.uart with cr := (s.eval v).setWidth 16 &&& 0xFF87#16 })
/-- R918. -/
def execRd32UartIfls (d : Dest) (s : State) : Result := readReg d 0x3F#32 (s.uart.ifls.setWidth 32) s
/-- R919: reserved levels are refused. -/
def execWr32UartIfls (v : Expr) (s : State) : Result :=
  if 4 < ((s.eval v).extractLsb' 0 3).toNat ∨ 4 < ((s.eval v).extractLsb' 3 3).toNat then .refused .reservedTriggerLevel
  else wrote (s.setUart { s.uart with ifls := (s.eval v).setWidth 6 })
/-- R920. -/
def execRd32UartImsc (d : Dest) (s : State) : Result := readReg d 0x7FF#32 (s.uart.imsc.setWidth 32) s
/-- R921. -/
def execWr32UartImsc (v : Expr) (s : State) : Result :=
  wrote (s.setUart { s.uart with imsc := (s.eval v).setWidth 11 })
/-- R922. -/
def execRd32UartRis (d : Dest) (s : State) : Result := readReg d 0x7FF#32 (s.uart.ris.setWidth 32) s
/-- R923. -/
def execRd32UartMis (d : Dest) (s : State) : Result := readReg d 0x7FF#32 ((s.uart.ris &&& s.uart.imsc).setWidth 32) s
/-- R911: write one to clear. -/
def execWr32UartIcr (v : Expr) (s : State) : Result :=
  wrote (s.setUart { s.uart with ris := s.uart.ris &&& ~~~((s.eval v).setWidth 11) })

/-! ### Direction rows -/

/-- 40 R405. -/
def execWr32UartFr (v : Expr) (s : State) : Result := writeReadOnly v s
/-- 40 R405. -/
def execWr32UartRis (v : Expr) (s : State) : Result := writeReadOnly v s
/-- 40 R405. -/
def execWr32UartMis (v : Expr) (s : State) : Result := writeReadOnly v s
/-- 40 R406. -/
def execRd32UartIcr (d : Dest) (s : State) : Result := readWriteOnly d s

/-! ### The line agent -/

/-- `last(U.rxq).oe <- 1` (R961). -/
def markLast : List RxEntry → List RxEntry
  | [] => []
  | [e] => [{ e with oe := true }]
  | e :: es => e :: markLast es

/-- `U.ris` after a push of `e` that leaves `n` entries (R961, R962). -/
def pushStatus (u : Uart) (e : RxEntry) (n : Nat) : BitVec 11 :=
  let r := if e.fe then putBit u.ris risFe true else u.ris
  let r := if e.pe then putBit r risPe true else r
  let r := if e.be then putBit r risBe true else r
  if u.rxTrig ≤ n then putBit r risRx true else r

/-- `RxPush(e)` (R961, D30; log 13): an overrun loses the byte, sets OE in `U.rsr` and `U.ris` and marks the newest entry. -/
def rxPush (u : Uart) (e : RxEntry) : Uart :=
  if u.rxq.length = u.cap then
    { u with rxq := markLast u.rxq, rsr := putBit u.rsr 3 true, ris := putBit u.ris risOe true }
  else { u with rxq := u.rxq ++ [e], ris := pushStatus u e (u.rxq.length + 1) }

/-- The TX line step (R960); `garbled` is what a bad line delivers. -/
def uartTxStep (garbled : List Byte) (s : State) : State :=
  match s.uart.txq with
  | [] => s
  | b :: rest =>
    if s.uart.enabled && s.uart.txEnabled then
      let t := s.setUart { s.uart with txq := rest }
      if s.uart.loopback then
        if s.uart.rxEnabled then
          t.setUart (rxPush t.uart { data := b, fe := false, pe := false, be := false, oe := false })
        else t
      else if lineOkTx s then t.setLine { s.line with tx := s.line.tx ++ [b] }
      else t.setLine { tx := s.line.tx ++ garbled, garbled := true }
    else s

/-- The RX line step (R961): the peer sends `good`; a bad line delivers `bad` and its error bits. -/
def uartRxStep (good bad : Byte) (fe pe be : Bool) (s : State) : State :=
  if s.uart.enabled && s.uart.rxEnabled && !s.uart.loopback then
    if lineOkRx s then
      s.setUart (rxPush s.uart { data := good, fe := false, pe := false, be := false, oe := false })
    else
      (s.setUart (rxPush s.uart { data := bad, fe := fe, pe := pe, be := be, oe := false })).setLine
        { s.line with garbled := true }
  else s

/-- The receive timeout (R963). -/
def uartTimeoutStep (s : State) : State :=
  if s.uart.rxq ≠ [] ∧ s.uart.ris.getLsbD risRt = false ∧ s.uart.enabled ∧ s.uart.rxEnabled then
    s.setUart { s.uart with ris := putBit s.uart.ris risRt true }
  else s

/-- Bit 1 (CTS) may take any value at any step (D57, U31; log 15, DEDUCED: R964 has it set only, until ICR clears it). -/
def uartCtsStep (v : Bool) (s : State) : State := s.setUart { s.uart with ris := putBit s.uart.ris risCts v }

/-- Bit 5 (TX) may take any value at any step (R964). -/
def uartTxBitStep (v : Bool) (s : State) : State := s.setUart { s.uart with ris := putBit s.uart.ris risTx v }

/-! ### Driver operations -/

/-- The expansion of `uart_init(baud)` for `baud ≠ 0` (R940); the divisor is exact. -/
def initTasks (p : Config.Params) (baud : Nat) : List Task :=
  [.op (.wr32UartCr (.lit 0#32)),
   .op (.gpioSetFunction Config.uartTxPin.val Config.uartAlt.toNat),
   .op (.gpioSetFunction Config.uartRxPin.val Config.uartAlt.toNat),
   .op (.gpioSetPull Config.uartTxPin.val 0), .op (.gpioSetPull Config.uartRxPin.val 0),
   .op (.wr32UartIcr (.lit 0x7FF#32)),
   .op (.wr32UartIbrd (.lit (BitVec.ofNat 32 (div64 p.uartClkHz baud / 64)))),
   .op (.wr32UartFbrd (.lit (BitVec.ofNat 32 (div64 p.uartClkHz baud % 64)))),
   .op (.wr32UartLcrh (.lit 0x70#32)), .op (.wr32UartImsc (.lit Config.uartImscInit)),
   .op (.wr32UartCr (.lit 0x301#32)), .uartInitStep]
/-- The operand of `uart_init`: `P_BAUD` where it is left out (R940). -/
def baudOperand (s : State) : Option Expr → Word
  | some e => s.eval e
  | none => BitVec.ofNat 32 Config.baud
/-- R940: `baud = 0` is refused. -/
def execUartInit (baud : Option Expr) (s : State) : Result :=
  if baudOperand s baud = 0#32 then .refused .baudZero
  else expandTo (initTasks s.params (baudOperand s baud).toNat) s
/-- The step `S.uart_initialized <- true` of R940. -/
def runUartInitStep (s : State) : Result := wrote (s.setSoft { s.soft with uartInitialized := true })

/-- The expansion of a sequence of `uart_putc` calls. -/
def putcAll (cs : List Byte) : List Task := cs.map (fun c => .op (.uartPutc (.lit (c.setWidth 32))))

/-- R941: waits until TXFF = 0, then writes. -/
def execUartPutc (c : Expr) (s : State) : Result :=
  expandTo [.op (.rd32UartFr (.putcReady ((s.eval c).setWidth 8)))] s
/-- R942. -/
def execUartPuts (bytes : List Byte) (s : State) : Result := expandTo (putcAll (crlf bytes)) s
/-- R943: waits until RXFE = 0, then reads. -/
def execUartGetc (r : Ret) (s : State) : Result := expandTo [.op (.rd32UartFr (.getcReady r))] s
/-- R944. -/
def execUartGetcNb (r : Ret) (s : State) : Result := expandTo [.op (.rd32UartFr (.getcNbFlag r))] s
/-- R945. -/
def execEcho (c : Expr) (s : State) : Result := expandTo [.op (.uartPutc (.lit (s.eval c)))] s
/-- R946. -/
def execUartPutdec (v : Expr) (s : State) : Result := expandTo (putcAll (decChars (s.eval v))) s
/-- R947. -/
def execUartPuthex (v : Expr) (s : State) : Result := expandTo (putcAll (hexChars (s.eval v))) s

end Sys2Proof.Machine
end

