-- ==== Sys2Proof/Machine/Agents.lean ====
section
/-! DEFINITION. The steps of the agents other than the CPU's program (00_scope R5): IRQ entry (60_exceptions R1020), the timer, the UART
line and the GPU. A turn whose step is not enabled changes nothing (log 7). -/

namespace Sys2Proof.Machine

open Sys2Proof

/-- IRQ entry is enabled (60 R1020): program text that has ended is nothing to run (`S.cont = []`; log 10). -/
def irqEnabled (s : State) : Bool :=
  decide (s.cpu.ctx = .fg) && !s.cpu.irqMask && irqLine s && !s.cpu.cont.all Task.ended

/-- The turn of IRQ entry: it takes the exception, if it is enabled. -/
def irqEntryStep (s : State) : Result := if irqEnabled s then takeException .irq s else .next s.skip

/-- The effect of an agent's turn; the CPU's two turns are not here. -/
def agentEffect (t : Config.Turn) (s : State) : State :=
  match t with
  | .cpu => s
  | .irqEntry => s
  | .timer => s.setTimer (timerTick s.timer)
  | .uartTx garbled => uartTxStep garbled s
  | .uartRx good bad fe pe be => uartRxStep good bad fe pe be s
  | .uartTimeout => uartTimeoutStep s
  | .uartCts v => uartCtsStep v s
  | .uartTxBit v => uartTxBitStep v s
  | .gpuTake => gpuTake s
  | .gpuRespond words r => gpuRespond words r s
  | .gpuSpurious r => gpuSpurious r s
  | .gpuCompare two v => gpuCompare two v s
  | .gpuClearMatch two => gpuClearMatch two s

/-- The turn of an agent other than the CPU: its effect, and the draw of the step is used up. -/
def agentStep (t : Config.Turn) (s : State) : Result := .next (agentEffect t s).skip

end Sys2Proof.Machine
end

