-- ==== Sys2Proof/Machine/Primitives.lean ====
section
/-! DEFINITION. RAM access and the CPU primitives (40_registerio R410, R411, R420 to R425). -/

namespace Sys2Proof.Machine

open Sys2Proof

/-- R420, 20 R241: no state change except `S.cyc`. -/
def execDmb (s : State) : Result := wrote s

/-- R421: once, and 32-byte aligned. -/
def execSetvbar (a : Expr) (s : State) : Result :=
  if s.cpu.vbarSet then .refused .vectorTableReinstalled
  else if (s.eval a).toNat % 32 ≠ 0 then .refused .vbarMisaligned
  else wrote (s.setCpu { s.cpu with vbar := s.eval a, vbarSet := true })

/-- R422: refused in the interrupt context. -/
def execCpsie (s : State) : Result :=
  if s.cpu.ctx = .irq then .refused .nestedEnable else wrote (s.setCpu { s.cpu with irqMask := false })

/-- R423. -/
def execCpsid (s : State) : Result := wrote (s.setCpu { s.cpu with irqMask := true })

/-- R424: at least `max n 1` cycles, no other state. -/
def execSpin (n : Nat) (s : State) : Result := .next (s.retire n)

/-- R425, 60 R1030. -/
def execIret (s : State) : Result := returnException s

/-- R410: an aligned word below `P_PERIPH_BASE`. -/
def execLdw (a : Expr) (d : Dest) (s : State) : Result :=
  match ramFault s (s.eval a).toNat with
  | some r => .refused r
  | none => readInto d (s.wordAt (s.eval a).toNat) s

/-- Whether an address is in the installed vector table (20 R250, R411). -/
def inVectorTable (s : State) (a : Nat) : Bool :=
  s.cpu.vbarSet && decide (s.cpu.vbar.toNat ≤ a) && decide (a < s.cpu.vbar.toNat + 32)

/-- R411: as LDW, and never into the installed vector table. -/
def execStw (a v : Expr) (s : State) : Result :=
  match ramFault s (s.eval a).toNat with
  | some r => .refused r
  | none =>
    if inVectorTable s (s.eval a).toNat then .refused (.vectorTableWrite (s.eval a).toNat)
    else wrote (s.putWord (s.eval a).toNat (s.eval v))

end Sys2Proof.Machine
end

