-- ==== Sys2Proof/Machine/Intc.lean ====
section
/-! DEFINITION. The interrupt controller, vector dispatch and priority (44_intc): registers and driver operations. -/

namespace Sys2Proof.Machine

open Sys2Proof

/-! ### Pending registers -/

/-- R804: bits 20:0 of IRQ_BASIC_PENDING; bits 31:21 are draws (R802). -/
def execRd32IrqBasicPending (d : Dest) (s : State) : Result := readReg d 0x001FFFFF#32 (basicPending s) s
/-- R805. -/
def execRd32IrqPending1 (d : Dest) (s : State) : Result := readReg d 0xFFFFFFFF#32 (ofBits 32 fun i => pendGpu s i) s
/-- R806. -/
def execRd32IrqPending2 (d : Dest) (s : State) : Result :=
  readReg d 0xFFFFFFFF#32 (ofBits 32 fun i => pendGpu s (32 + i)) s
/-- 40 R405. -/
def execWr32IrqBasicPending (v : Expr) (s : State) : Result := writeReadOnly v s
/-- 40 R405. -/
def execWr32IrqPending1 (v : Expr) (s : State) : Result := writeReadOnly v s
/-- 40 R405. -/
def execWr32IrqPending2 (v : Expr) (s : State) : Result := writeReadOnly v s

/-! ### FIQ control -/

/-- R807. -/
def execRd32FiqControl (d : Dest) (s : State) : Result := readReg d 0xFF#32 (s.intc.fiqc.setWidth 32) s
/-- R808: enabling FIQ is refused. -/
def execWr32FiqControl (v : Expr) (s : State) : Result :=
  if (s.eval v).getLsbD 7 then .refused .fiqUnmodelled
  else wrote (s.setIntc { s.intc with fiqc := (s.eval v).setWidth 8 })

/-! ### Enables -/

/-- R809. -/
def execRd32EnableIrqs1 (d : Dest) (s : State) : Result := readReg d 0xFFFFFFFF#32 s.intc.en1 s
/-- R810. -/
def execRd32EnableIrqs2 (d : Dest) (s : State) : Result := readReg d 0xFFFFFFFF#32 s.intc.en2 s
/-- R811. -/
def execRd32EnableBasic (d : Dest) (s : State) : Result := readReg d 0xFF#32 (s.intc.enb.setWidth 32) s
/-- R812: write one to set. -/
def execWr32EnableIrqs1 (v : Expr) (s : State) : Result :=
  wrote (s.setIntc { s.intc with en1 := s.intc.en1 ||| s.eval v })
/-- R813. -/
def execWr32EnableIrqs2 (v : Expr) (s : State) : Result :=
  wrote (s.setIntc { s.intc with en2 := s.intc.en2 ||| s.eval v })
/-- R814. -/
def execWr32EnableBasic (v : Expr) (s : State) : Result :=
  wrote (s.setIntc { s.intc with enb := s.intc.enb ||| (s.eval v).setWidth 8 })
/-- R815: it reads the enables. -/
def execRd32DisableIrqs1 (d : Dest) (s : State) : Result := readReg d 0xFFFFFFFF#32 s.intc.en1 s
/-- R816. -/
def execRd32DisableIrqs2 (d : Dest) (s : State) : Result := readReg d 0xFFFFFFFF#32 s.intc.en2 s
/-- R817. -/
def execRd32DisableBasic (d : Dest) (s : State) : Result := readReg d 0xFF#32 (s.intc.enb.setWidth 32) s
/-- R818: write one to clear. -/
def execWr32DisableIrqs1 (v : Expr) (s : State) : Result :=
  wrote (s.setIntc { s.intc with en1 := s.intc.en1 &&& ~~~(s.eval v) })
/-- R819. -/
def execWr32DisableIrqs2 (v : Expr) (s : State) : Result :=
  wrote (s.setIntc { s.intc with en2 := s.intc.en2 &&& ~~~(s.eval v) })
/-- R820. -/
def execWr32DisableBasic (v : Expr) (s : State) : Result :=
  wrote (s.setIntc { s.intc with enb := s.intc.enb &&& ~~~((s.eval v).setWidth 8) })

/-! ### Driver operations -/

/-- The primitives of `irq_install()` (R860), in the source's order; the last one is `CPSIE` with `S.ic_phase <- Armed`. -/
def installTasks (p : Config.Params) : List Task :=
  [.op (.setvbar (.lit p.vtAddr)), .op (.wr32StCs (.lit (1#32 <<< Config.timerChannel))),
   .op (.wr32UartIcr (.lit 0x7FF#32)), .op (.wr32DisableIrqs1 (.lit 0xFFFFFFFF#32)),
   .op (.wr32DisableIrqs2 (.lit 0xFFFFFFFF#32)), .op (.wr32DisableBasic (.lit 0xFF#32)),
   .op (.wr32EnableIrqs1 (.lit (1#32 <<< Config.timerChannel))),
   .op (.wr32EnableIrqs2 (.lit (1#32 <<< (57 - 32)))), .cpsieArm]
/-- R860. -/
def execIrqInstall (s : State) : Result := expandTo (installTasks s.params) s
/-- R870: reads the three pending registers, then the timer, then the UART. -/
def execHandleIrq (s : State) : Result :=
  expandTo [.op (.rd32IrqBasicPending .ignore), .op (.rd32IrqPending1 .irqPending1)] s
/-- R871: drains by `uart_getc_nb` until it gives none. -/
def execUartDrain (s : State) : Result := expandTo [.op (.uartGetcNb .drain)] s
/-- R872: one CPU step. -/
def execInstallInputHandler (h : Handler) (s : State) : Result :=
  wrote (s.setSoft { s.soft with inputHandler := h })

/-- The last step of `irq_install` (R860, R861): `CPSIE`, and in the same step `S.ic_phase <- Armed`. -/
def runCpsieArm (s : State) : Result :=
  match execCpsie s with
  | .next t => .next (t.setCpu { t.cpu with icPhase := .armed })
  | .fault f => .fault f
  | .refused r => .refused r

end Sys2Proof.Machine
end

