-- ==== Sys2Proof/Machine/Dispatch.lean ====
section
/-! DEFINITION. The dispatch: one arm per constructor of Instr. -/

namespace Sys2Proof.Machine

open Sys2Proof

def exec (i : Instr) (s : State) : Host.Outcome State Fault Refusal :=
  match i with
  | .rd32Gpfsel0 d => Sys2Proof.Machine.execRd32Gpfsel0 d s
  | .rd32Gpfsel1 d => Sys2Proof.Machine.execRd32Gpfsel1 d s
  | .rd32Gpfsel2 d => Sys2Proof.Machine.execRd32Gpfsel2 d s
  | .rd32Gpfsel3 d => Sys2Proof.Machine.execRd32Gpfsel3 d s
  | .rd32Gpfsel4 d => Sys2Proof.Machine.execRd32Gpfsel4 d s
  | .rd32Gpfsel5 d => Sys2Proof.Machine.execRd32Gpfsel5 d s
  | .wr32Gpfsel0 v => Sys2Proof.Machine.execWr32Gpfsel0 v s
  | .wr32Gpfsel1 v => Sys2Proof.Machine.execWr32Gpfsel1 v s
  | .wr32Gpfsel2 v => Sys2Proof.Machine.execWr32Gpfsel2 v s
  | .wr32Gpfsel3 v => Sys2Proof.Machine.execWr32Gpfsel3 v s
  | .wr32Gpfsel4 v => Sys2Proof.Machine.execWr32Gpfsel4 v s
  | .wr32Gpfsel5 v => Sys2Proof.Machine.execWr32Gpfsel5 v s
  | .rd32Gppud d => Sys2Proof.Machine.execRd32Gppud d s
  | .wr32Gppud v => Sys2Proof.Machine.execWr32Gppud v s
  | .rd32Gppudclk0 d => Sys2Proof.Machine.execRd32Gppudclk0 d s
  | .rd32Gppudclk1 d => Sys2Proof.Machine.execRd32Gppudclk1 d s
  | .wr32Gppudclk0 v => Sys2Proof.Machine.execWr32Gppudclk0 v s
  | .wr32Gppudclk1 v => Sys2Proof.Machine.execWr32Gppudclk1 v s
  | .wr32Gpset0 v => Sys2Proof.Machine.execWr32Gpset0 v s
  | .wr32Gpset1 v => Sys2Proof.Machine.execWr32Gpset1 v s
  | .wr32Gpclr0 v => Sys2Proof.Machine.execWr32Gpclr0 v s
  | .wr32Gpclr1 v => Sys2Proof.Machine.execWr32Gpclr1 v s
  | .rd32Gplev0 d => Sys2Proof.Machine.execRd32Gplev0 d s
  | .rd32Gplev1 d => Sys2Proof.Machine.execRd32Gplev1 d s
  | .rd32Gpset0 d => Sys2Proof.Machine.execRd32Gpset0 d s
  | .rd32Gpset1 d => Sys2Proof.Machine.execRd32Gpset1 d s
  | .rd32Gpclr0 d => Sys2Proof.Machine.execRd32Gpclr0 d s
  | .rd32Gpclr1 d => Sys2Proof.Machine.execRd32Gpclr1 d s
  | .wr32Gplev0 v => Sys2Proof.Machine.execWr32Gplev0 v s
  | .wr32Gplev1 v => Sys2Proof.Machine.execWr32Gplev1 v s
  | .rd32StCs d => Sys2Proof.Machine.execRd32StCs d s
  | .wr32StCs v => Sys2Proof.Machine.execWr32StCs v s
  | .rd32StClo d => Sys2Proof.Machine.execRd32StClo d s
  | .rd32StChi d => Sys2Proof.Machine.execRd32StChi d s
  | .rd32StC0 d => Sys2Proof.Machine.execRd32StC0 d s
  | .rd32StC1 d => Sys2Proof.Machine.execRd32StC1 d s
  | .rd32StC2 d => Sys2Proof.Machine.execRd32StC2 d s
  | .rd32StC3 d => Sys2Proof.Machine.execRd32StC3 d s
  | .wr32StC0 v => Sys2Proof.Machine.execWr32StC0 v s
  | .wr32StC1 v => Sys2Proof.Machine.execWr32StC1 v s
  | .wr32StC2 v => Sys2Proof.Machine.execWr32StC2 v s
  | .wr32StC3 v => Sys2Proof.Machine.execWr32StC3 v s
  | .wr32StClo v => Sys2Proof.Machine.execWr32StClo v s
  | .wr32StChi v => Sys2Proof.Machine.execWr32StChi v s
  | .rd32IrqBasicPending d => Sys2Proof.Machine.execRd32IrqBasicPending d s
  | .rd32IrqPending1 d => Sys2Proof.Machine.execRd32IrqPending1 d s
  | .rd32IrqPending2 d => Sys2Proof.Machine.execRd32IrqPending2 d s
  | .rd32FiqControl d => Sys2Proof.Machine.execRd32FiqControl d s
  | .wr32FiqControl v => Sys2Proof.Machine.execWr32FiqControl v s
  | .rd32EnableIrqs1 d => Sys2Proof.Machine.execRd32EnableIrqs1 d s
  | .wr32EnableIrqs1 v => Sys2Proof.Machine.execWr32EnableIrqs1 v s
  | .rd32EnableIrqs2 d => Sys2Proof.Machine.execRd32EnableIrqs2 d s
  | .wr32EnableIrqs2 v => Sys2Proof.Machine.execWr32EnableIrqs2 v s
  | .rd32EnableBasic d => Sys2Proof.Machine.execRd32EnableBasic d s
  | .wr32EnableBasic v => Sys2Proof.Machine.execWr32EnableBasic v s
  | .rd32DisableIrqs1 d => Sys2Proof.Machine.execRd32DisableIrqs1 d s
  | .wr32DisableIrqs1 v => Sys2Proof.Machine.execWr32DisableIrqs1 v s
  | .rd32DisableIrqs2 d => Sys2Proof.Machine.execRd32DisableIrqs2 d s
  | .wr32DisableIrqs2 v => Sys2Proof.Machine.execWr32DisableIrqs2 v s
  | .rd32DisableBasic d => Sys2Proof.Machine.execRd32DisableBasic d s
  | .wr32DisableBasic v => Sys2Proof.Machine.execWr32DisableBasic v s
  | .wr32IrqBasicPending v => Sys2Proof.Machine.execWr32IrqBasicPending v s
  | .wr32IrqPending1 v => Sys2Proof.Machine.execWr32IrqPending1 v s
  | .wr32IrqPending2 v => Sys2Proof.Machine.execWr32IrqPending2 v s
  | .rd32Mbox0Read d => Sys2Proof.Machine.execRd32Mbox0Read d s
  | .rd32Mbox0Peek d => Sys2Proof.Machine.execRd32Mbox0Peek d s
  | .rd32Mbox0Status d => Sys2Proof.Machine.execRd32Mbox0Status d s
  | .rd32Mbox1Status d => Sys2Proof.Machine.execRd32Mbox1Status d s
  | .wr32Mbox1Write v => Sys2Proof.Machine.execWr32Mbox1Write v s
  | .wr32Mbox0Read v => Sys2Proof.Machine.execWr32Mbox0Read v s
  | .wr32Mbox0Peek v => Sys2Proof.Machine.execWr32Mbox0Peek v s
  | .wr32Mbox0Status v => Sys2Proof.Machine.execWr32Mbox0Status v s
  | .wr32Mbox1Status v => Sys2Proof.Machine.execWr32Mbox1Status v s
  | .rd32Mbox1Write d => Sys2Proof.Machine.execRd32Mbox1Write d s
  | .rd32UartDr d => Sys2Proof.Machine.execRd32UartDr d s
  | .wr32UartDr v => Sys2Proof.Machine.execWr32UartDr v s
  | .rd32UartRsrecr d => Sys2Proof.Machine.execRd32UartRsrecr d s
  | .wr32UartRsrecr v => Sys2Proof.Machine.execWr32UartRsrecr v s
  | .rd32UartFr d => Sys2Proof.Machine.execRd32UartFr d s
  | .rd32UartIbrd d => Sys2Proof.Machine.execRd32UartIbrd d s
  | .wr32UartIbrd v => Sys2Proof.Machine.execWr32UartIbrd v s
  | .rd32UartFbrd d => Sys2Proof.Machine.execRd32UartFbrd d s
  | .wr32UartFbrd v => Sys2Proof.Machine.execWr32UartFbrd v s
  | .rd32UartLcrh d => Sys2Proof.Machine.execRd32UartLcrh d s
  | .wr32UartLcrh v => Sys2Proof.Machine.execWr32UartLcrh v s
  | .rd32UartCr d => Sys2Proof.Machine.execRd32UartCr d s
  | .wr32UartCr v => Sys2Proof.Machine.execWr32UartCr v s
  | .rd32UartIfls d => Sys2Proof.Machine.execRd32UartIfls d s
  | .wr32UartIfls v => Sys2Proof.Machine.execWr32UartIfls v s
  | .rd32UartImsc d => Sys2Proof.Machine.execRd32UartImsc d s
  | .wr32UartImsc v => Sys2Proof.Machine.execWr32UartImsc v s
  | .rd32UartRis d => Sys2Proof.Machine.execRd32UartRis d s
  | .rd32UartMis d => Sys2Proof.Machine.execRd32UartMis d s
  | .wr32UartIcr v => Sys2Proof.Machine.execWr32UartIcr v s
  | .wr32UartFr v => Sys2Proof.Machine.execWr32UartFr v s
  | .wr32UartRis v => Sys2Proof.Machine.execWr32UartRis v s
  | .wr32UartMis v => Sys2Proof.Machine.execWr32UartMis v s
  | .rd32UartIcr d => Sys2Proof.Machine.execRd32UartIcr d s
  | .dmb => Sys2Proof.Machine.execDmb s
  | .setvbar a => Sys2Proof.Machine.execSetvbar a s
  | .cpsie => Sys2Proof.Machine.execCpsie s
  | .cpsid => Sys2Proof.Machine.execCpsid s
  | .spin n => Sys2Proof.Machine.execSpin n s
  | .iret => Sys2Proof.Machine.execIret s
  | .ldw a d => Sys2Proof.Machine.execLdw a d s
  | .stw a v => Sys2Proof.Machine.execStw a v s
  | .gpioSetFunction p f => Sys2Proof.Machine.execGpioSetFunction p f s
  | .gpioSetOutput p level => Sys2Proof.Machine.execGpioSetOutput p level s
  | .gpioGetInput p r => Sys2Proof.Machine.execGpioGetInput p r s
  | .gpioSetPull p mode => Sys2Proof.Machine.execGpioSetPull p mode s
  | .mboxCall r => Sys2Proof.Machine.execMboxCall r s
  | .getDisplaySurface r => Sys2Proof.Machine.execGetDisplaySurface r s
  | .timerNowUs r => Sys2Proof.Machine.execTimerNowUs r s
  | .timerNowUs64 r => Sys2Proof.Machine.execTimerNowUs64 r s
  | .timerSleepUs us => Sys2Proof.Machine.execTimerSleepUs us s
  | .timerSleepMs ms => Sys2Proof.Machine.execTimerSleepMs ms s
  | .timerArmPeriodic ms => Sys2Proof.Machine.execTimerArmPeriodic ms s
  | .timerOnInterrupt => Sys2Proof.Machine.execTimerOnInterrupt s
  | .ticksMs r => Sys2Proof.Machine.execTicksMs r s
  | .irqInstall => Sys2Proof.Machine.execIrqInstall s
  | .handleIrq => Sys2Proof.Machine.execHandleIrq s
  | .uartDrain => Sys2Proof.Machine.execUartDrain s
  | .installInputHandler h => Sys2Proof.Machine.execInstallInputHandler h s
  | .uartInit baud => Sys2Proof.Machine.execUartInit baud s
  | .uartPutc c => Sys2Proof.Machine.execUartPutc c s
  | .uartPuts bytes => Sys2Proof.Machine.execUartPuts bytes s
  | .uartGetc r => Sys2Proof.Machine.execUartGetc r s
  | .uartGetcNb r => Sys2Proof.Machine.execUartGetcNb r s
  | .echo c => Sys2Proof.Machine.execEcho c s
  | .uartPutdec v => Sys2Proof.Machine.execUartPutdec v s
  | .uartPuthex v => Sys2Proof.Machine.execUartPuthex v s

end Sys2Proof.Machine
end

