-- ==== Sys2Proof/Machine/Cpu.lean ====
section
/-! DEFINITION. The CPU's program (10_state R102, 40_registerio R400): what stands at the head of the continuation, how it runs,
when it has no cost, the end of a run (70 R1130), and whose turn it is (00_scope R5). -/

namespace Sys2Proof.Machine

open Sys2Proof

/-- The instruction that a task starts with, if it starts with one, and what is left of the task. -/
def Task.fetch : Task → Option (Instr × List Task)
  | .op i => some (i, [])
  | .code ws env =>
    match decode ws with
    | .ok i rest => some (i, [.code rest env])
    | .reject _ => none
  | _ => none

/-- Whether the head of the continuation costs nothing (10 R102): text that has ended, or a driver operation that is
replaced by its expansion. It runs at once, before any agent moves (log 9). -/
def Task.silent (t : Task) : Bool :=
  t.ended ||
    match t.fetch with
    | some (i, _) => i.expands
    | none => false

/-- Runs the task `t`, the head of the continuation, with `ts` still to run after it. -/
def runTask (t : Task) (ts : List Task) (s : State) : Result :=
  match t with
  | .op i => exec i (s.setCont ts)
  | .tickStep => runTickStep (s.setCont ts)
  | .uartInitStep => runUartInitStep (s.setCont ts)
  | .cpsieArm => runCpsieArm (s.setCont ts)
  | .code [] _ => .next (s.setCont ts)
  | .code (w :: ws) env =>
    match decode (w :: ws) with
    | .ok i rest => exec i (s.setCont (.code rest env :: ts))
    | .reject r => .refused (.rejected r)

/-- The head of the continuation runs (40 R400). With nothing to run the CPU has no step. -/
def cpuStep (s : State) : Result :=
  match s.cpu.cont with
  | [] => .next s.skip
  | t :: ts => runTask t ts s

/-- The head of the continuation costs nothing. -/
def silentHead (s : State) : Bool :=
  match s.cpu.cont with
  | [] => false
  | t :: _ => t.silent

/-- The run has ended (70 R1130): the foreground program has nothing left. -/
def State.finished (s : State) : Bool := decide (s.cpu.ctx = .fg) && s.cpu.cont.all Task.ended

/-- Who moves next (00 R5; log 7). -/
def State.nextTurn (s : State) : Config.Turn :=
  match s.sched with
  | [] => Config.turn s.draws
  | t :: _ => t

/-- The state once that turn has been given. -/
def State.giveTurn (s : State) : State := s.setSched s.sched.tail

/-- The step of the agent whose turn it is. -/
def runTurn (t : Config.Turn) (s : State) : Result :=
  match t with
  | .cpu => cpuStep s
  | .irqEntry => irqEntryStep s
  | t => agentStep t s

/-- One step of the machine: a misaligned request buffer is refused at launch (20 R211); a final state stays (R1130); what has
no cost runs at once; else the agent whose turn it is moves. -/
def machineStep (s : State) : Result :=
  if s.params.mboxBuf.toNat % 16 ≠ 0 then .refused .mailboxBufferMisaligned
  else if s.finished then .next s
  else if silentHead s then cpuStep s
  else runTurn s.nextTurn s.giveTurn

end Sys2Proof.Machine
end

