-- ==== Sys2Proof/Machine/Step.lean ====
section
/-! DEFINITION. The step of the machine, and how a program's words are placed (20_memory R250; log 4). -/

namespace Sys2Proof.Machine

open Sys2Proof

/-- One step. -/
def step (s : State) : Host.Outcome State Fault Refusal := machineStep s

/-- `s` with the instruction of `nbits` bits `w` loaded as the program text that runs next, and with the CPU's turn next. -/
def State.withFetchWord (s : State) (nbits w : Nat) : State :=
  (s.setCont (.code (programWords nbits w) [] :: s.cpu.cont)).setSched (.cpu :: s.sched)

end Sys2Proof.Machine
end

