-- ==== Sys2Proof/Safety.lean ====
section
/-! DEFINITION. What claims speak of: entry states (10_state R160), what every step keeps, runs, weak fairness (43 R710, 45 R965,
60 R1020) and the named premises `gpu_ok` (42 R641) and `poll_every_tick` (43 R732). -/

namespace Sys2Proof.Machine

open Sys2Proof

/-! ### Entry states -/

/-- The RAM that a machine with nothing stored has: the request image at `P_MBOX_BUF`, all else draws (R112). -/
def Memory.atEntry (m : Memory) (p : Config.Params) : Prop :=
  m.wf p = true ∧ ∀ a b, imageByte p a = some b → m.lookup a = none

/-- An entry state of R160: every field it fixes has its value, every other field any value that its type and the
FIFO capacities of R109 and R110 allow; bits 0, 2 and 3 of `U.ris` are always 0 (45 R964). The foreground program is any. -/
structure IsEntry (s : State) : Prop where
  params : s.params.wf = true
  ctx : s.cpu.ctx = .fg
  irqMask : s.cpu.irqMask = true
  vbarSet : s.cpu.vbarSet = false
  saved : s.cpu.saved = none
  savedMask : s.cpu.savedMask = false
  icPhase : s.cpu.icPhase = .masked
  cyc : s.cyc = 0
  tick : s.soft.tick = 0#32
  inputHandler : s.soft.inputHandler = .echo
  surface : s.soft.surface = none
  uartInitialized : s.soft.uartInitialized = false
  en1 : s.intc.en1 = 0#32
  en2 : s.intc.en2 = 0#32
  enb : s.intc.enb = 0#8
  fiq : s.intc.fiqc.getLsbD 7 = false
  pull : s.gpio.pull = Vector.replicate 54 Pull.unknown
  pudT : s.gpio.pudT = 0
  clkT : s.gpio.clkT = Vector.replicate 54 0
  inq : s.mbox.inq.length ≤ s.params.mboxDepth
  outq : s.mbox.outq.length ≤ s.params.mboxDepth
  txq : s.uart.txq.length ≤ s.uart.cap
  rxq : s.uart.rxq.length ≤ s.uart.cap
  ris : s.uart.ris &&& 0b1101#11 = 0#11
  mem : s.mem.atEntry s.params
  tx : s.line.tx = []
  garbled : s.line.garbled = false

/-! ### What every step keeps -/

/-- The invariant of the machine: RAM in canonical form, no FIFO above its capacity (R109, R110), the interrupt context
exactly while a continuation is saved, with IRQs masked (60 R1020, R1031), an aligned vector base once it is installed (40 R421),
FIQ never enabled (44 R808), the absent modem bits 0 (45 R964), and no time of
the pull latch in the future (41 R516). -/
structure Invariant (s : State) : Prop where
  mem : s.mem.wf s.params = true
  inq : s.mbox.inq.length ≤ s.params.mboxDepth
  outq : s.mbox.outq.length ≤ s.params.mboxDepth
  txq : s.uart.txq.length ≤ s.uart.cap
  rxq : s.uart.rxq.length ≤ s.uart.cap
  saved : s.cpu.saved.isSome = decide (s.cpu.ctx = .irq)
  masked : s.cpu.ctx = .irq → s.cpu.irqMask = true
  savedMask : s.cpu.savedMask = false
  vbar : s.cpu.vbarSet = true → s.cpu.vbar.toNat % 32 = 0
  fiq : s.intc.fiqc.getLsbD 7 = false
  ris : s.uart.ris &&& 0b1101#11 = 0#11
  pudT : s.gpio.pudT ≤ s.cyc
  clkT : ∀ p : Fin 54, s.gpio.clkT[p] ≤ s.cyc

/-- No register holds a value whose write is refused (30 R330 d). Only an entry draw can break it. -/
structure LegalFields (s : State) : Prop where
  pud : s.gpio.pud ≠ 3#2
  cr : s.uart.cr &&& 0xC006#16 = 0#16
  iflsTx : (s.uart.ifls.extractLsb' 0 3).toNat ≤ 4
  iflsRx : (s.uart.ifls.extractLsb' 3 3).toNat ≤ 4

/-- What a step may never change: the parameters (R20) and, once installed, the vector base (40 R421, 60 R1010). -/
def FixedOnce (s t : State) : Prop :=
  t.params = s.params ∧
    (s.cpu.vbarSet = true → t.cpu.vbarSet = true ∧ t.cpu.vbar = s.cpu.vbar) ∧
    (s.cpu.icPhase = .armed → t.cpu.icPhase = .armed)

/-! ### Runs -/

/-- An infinite run: from each state the step answers the next. -/
def IsRun (r : Nat → State) : Prop := ∀ n, step (r n) = .next (r (n + 1))

/-- The turn that a step gives, if it gives one: none at a final state and for what has no cost. -/
def State.moves (s : State) : Option Config.Turn :=
  if s.finished || silentHead s then none else some s.nextTurn

/-- Weak fairness: if `enabled` holds from some point on, a turn of the agent is taken after it. -/
def WeaklyFair (r : Nat → State) (enabled : State → Prop) (agent : Config.Turn → Bool) : Prop :=
  ∀ n, (∀ m, n ≤ m → enabled (r m)) → ∃ m, n ≤ m ∧ (r m).moves.any agent = true

/-- The turns of the agents that the spec calls weakly fair. -/
def isTimerTurn : Config.Turn → Bool
  | .timer => true
  | _ => false
def isTxTurn : Config.Turn → Bool
  | .uartTx _ => true
  | _ => false
def isTimeoutTurn : Config.Turn → Bool
  | .uartTimeout => true
  | _ => false
def isIrqTurn : Config.Turn → Bool
  | .irqEntry => true
  | _ => false
def isTakeTurn : Config.Turn → Bool
  | .gpuTake => true
  | _ => false
def isRespondTurn : Config.Turn → Bool
  | .gpuRespond _ _ => true
  | _ => false
def isCpuTurn : Config.Turn → Bool
  | .cpu => true
  | _ => false

/-- The TX line step is enabled (45 R960). -/
def txEnabled (s : State) : Prop :=
  s.finished = false ∧ s.uart.txq ≠ [] ∧ s.uart.enabled = true ∧ s.uart.txEnabled = true
/-- The receive-timeout step is enabled (45 R963). -/
def timeoutEnabled (s : State) : Prop :=
  s.finished = false ∧ s.uart.rxq ≠ [] ∧ s.uart.ris.getLsbD risRt = false ∧ s.uart.enabled = true ∧ s.uart.rxEnabled = true
/-- The GPU's take step is enabled (42 R640 a, R641 (3)). -/
def takeEnabled (s : State) : Prop := s.finished = false ∧ s.mbox.gpu = none ∧ s.mbox.outq ≠ []
/-- The GPU's respond step is enabled (42 R640 b, R641 (3)): whatever word it holds, since a channel word waits behind it. -/
def respondEnabled (s : State) : Prop := s.finished = false ∧ gpuMayPush s = true ∧ s.mbox.gpu ≠ none

/-- The fairness of the timer, TX, receive-timeout and IRQ-entry steps (43 R710, 45 R965, 60 R1020). -/
def FairRun (r : Nat → State) : Prop :=
  WeaklyFair r (fun s => s.finished = false) isTimerTurn ∧ WeaklyFair r txEnabled isTxTurn ∧
    WeaklyFair r timeoutEnabled isTimeoutTurn ∧ WeaklyFair r (fun s => irqEnabled s = true) isIrqTurn

/-- A wait loop of `timer_sleep_us` runs: the next primitive is the ST_CLO read that it repeats (43 R732). -/
def waitHead : List Task → Prop
  | .op (.rd32StClo (.sleepWrap _ _)) :: _ => True
  | .op (.rd32StClo (.sleepUntil _)) :: _ => True
  | _ => False

/-- What a context still has to run: the foreground's continuation is the saved one while the handler runs (60 R1020). -/
def State.contOf (s : State) (c : Ctx) : List Task :=
  if s.cpu.ctx = c then s.cpu.cont
  else match c with
    | .fg => s.cpu.saved.getD []
    | .irq => []

/-- The premise `poll_every_tick` (43 R732, D63): while a wait loop runs, interrupted or not (70 R1115, R1120), the CPU reads
ST_CLO for it at least once between any two timer steps ("the premise puts a wait-loop read inside it"). -/
def PollEveryTick (r : Nat → State) : Prop :=
  ∀ (c : Ctx) (m n : Nat), m < n → (r m).moves.any isTimerTurn = true → (r n).moves.any isTimerTurn = true →
    (∀ k, m ≤ k → k ≤ n → waitHead ((r k).contOf c)) →
      ∃ k, m < k ∧ k < n ∧ (r k).cpu.ctx = c ∧ (r k).moves.any isCpuTurn = true

/-! ### The well-behaved GPU (42 R641) -/

/-- The words that a well-behaved GPU writes for `gpu_ok(B, Z, P, W', H', D')` (R641 (2)): word index and value. -/
def gpuOkWords (B Z P W H D : Word) : List (Nat × Word) :=
  [(1, 0x80000000#32), (4, 0x80000008#32), (5, W), (6, H), (9, 0x80000008#32), (10, W), (11, H), (14, 0x80000004#32),
   (15, D), (18, 0x80000008#32), (19, B), (20, Z), (23, 0x80000004#32), (24, P)]

/-- The buffer at `base` holds the request image of R620. -/
def holdsImage (s : State) (base : Nat) : Prop :=
  ∀ k : Fin 28, some (s.wordAt (base + 4 * k.val)) = (requestImage s.params)[k.val]?

/-- The GPU turn `t` behaves at `s` (R641 (2) and (4)): the answer to a channel word whose buffer holds the image is the one
of `gpuOkWords` and echoes the word; a word of the channel is pushed only in answer to a word of the channel. -/
def gpuTurnOk (B Z P W H D : Word) (s : State) (t : Config.Turn) : Prop :=
  match t with
  | .gpuRespond words r =>
    ∀ w, s.mbox.gpu = some w →
      (wordChannel w = Config.mboxChannel → holdsImage s (bufferOf w) → words = gpuOkWords B Z P W H D ∧ r = w) ∧
        (wordChannel w ≠ Config.mboxChannel → wordChannel r ≠ Config.mboxChannel)
  | _ => True

/-- The premise `gpu_ok` of R641 on a run. -/
structure GpuOk (B Z P W H D : Word) (r : Nat → State) : Prop where
  inbox : ∀ w ∈ (r 0).mbox.inq, wordChannel w ≠ Config.mboxChannel
  idle : (r 0).mbox.gpu = none
  turns : ∀ n t, (r n).moves = some t → gpuTurnOk B Z P W H D (r n) t
  takes : WeaklyFair r takeEnabled isTakeTurn
  responds : WeaklyFair r respondEnabled isRespondTurn

/-! ### Steps of the CPU alone -/

/-- `n` steps of the CPU's program with no other agent between them (tasks that cost nothing are counted too). -/
def cpuSteps : Nat → State → Result
  | 0, s => .next s
  | n + 1, s =>
    match cpuStep s with
    | .next t => cpuSteps n t
    | .fault f => .fault f
    | .refused r => .refused r

/-! ### Safe steps -/

/-- The step stops: with a fault or a refusal. -/
def Stops (s : State) : Prop :=
  (∃ f, step s = .fault f) ∨ ∃ x, step s = .refused x

/-- From `s` the machine makes `n` steps, and the step after them does not stop. -/
def SafeFor : Nat → State → Prop
  | 0, s => ¬ Stops s
  | n + 1, s => ∃ t, step s = .next t ∧ SafeFor n t

end Sys2Proof.Machine
end

