-- ==== Sys2Proof/Certificates/Slice0/Obligations.lean ====
section
/-! DEFINITION. The statements for the provers. Each is a claim about the machine for all states and operands; its docstring
names the rule of spec/ it formalises. A CPU step that ends with `State.retire n` costs a free number of cycles of at least
`max n 1` and uses up one draw (log 8); `deliver d v` is the arrival of a read's value at its destination. -/

open Sys2Proof Sys2Proof.Machine

/-! ### Encoding -/

/-- Words written out from the key tables of R302, R340 and R341 (the operand layout is log 5): some instructions of every
family, and keys with no row (R404, V-IO-2, V-IO-5, V-IC-11; the names of the last two
rejections: log 26). -/
def Obligations.WrittenWordsDecode : Prop :=
  decode [0x00201018#32, 5#32] = .ok (.rd32UartFr (.ret (.loc 5))) [] ∧
  decode [0x0120001C#32, 0#32, 0x00010000#32] = .ok (.wr32Gpset0 (.lit 0x00010000#32)) [] ∧
  decode [0x00003008#32, 1#32] = .ok (.rd32StChi (.ret (.loc 1))) [] ∧
  decode [0x0100B210#32, 1#32, 3#32] = .ok (.wr32EnableIrqs1 (.loc 3)) [] ∧
  decode [0x0100B8A0#32, 0#32, 0xC0100008#32] = .ok (.wr32Mbox1Write (.lit 0xC0100008#32)) [] ∧
  decode [0x80000200#32, 0#32, 0x00008000#32] = .ok (.setvbar (.lit 0x00008000#32)) [] ∧
  decode [0x80000500#32, 150#32] = .ok (.spin 150) [] ∧
  decode [0x80000600#32] = .ok .iret [] ∧
  decode [0x40001000#32, 14#32, 4#32] = .ok (.gpioSetFunction 14 4) [] ∧
  decode [0x40005200#32, 2#32, 0x68#32, 0x0A#32] = .ok (.uartPuts [0x68#8, 0x0A#8]) [] ∧
  decode [0x0000301C#32, 1#32] = .reject (.unmappedRegister 0x00301C) ∧
  decode [0x0100B27C#32, 0#32, 0#32] = .reject (.unmappedRegister 0x00B27C) ∧
  decode [0x00201002#32, 1#32] = .reject (.misalignedOffset 0x201002) ∧
  decode [0x80000900#32] = .reject (.unknownKey 0x80000900)

/-- The decoder reads back every well-formed instruction from its words, whatever follows them: no operand loses a bit. -/
def Obligations.DecodeReadsWhatEncodeWrites : Prop :=
  ∀ (i : Instr) (rest : List Word), i.wf = true → decode (encode i ++ rest) = .ok i rest

/-- The other direction (R302): an instruction that the decoder answers is well formed, and its key is the first word: all
32 bits of it for a register access, bits 31:8 of it for a CPU primitive or a driver operation. -/
def Obligations.DecodedInstructionHasItsKey : Prop :=
  ∀ (w : Word) (ws rest : List Word) (i : Instr), decode (w :: ws) = .ok i rest →
    i.wf = true ∧ i.key = if w.toNat < 0x2000000 then w else w &&& 0xFFFFFF00#32

/-- The address decode of R301 with R211 and R212: a transaction of another size, outside the window of 16 MiB at the
peripheral base, is refused; every other one is the instruction of the key `(dir << 24) | off`, or is refused as that key
is. (Under which name the first two are refused, and that the width is looked at first, is the model's choice: DESIGN CHOICE,
log 26.) -/
def Obligations.TransactionIsTheInstructionOfItsKey : Prop :=
  ∀ (base : Word) (x : Nat) (t : Transaction),
    let off := t.addr.toNat - base.toNat
    let answer := t.instr base (.ret (.loc x))
    let asDecoded : Decoded := match answer with
      | .ok i => .ok i []
      | .error e => .reject e
    if t.size ≠ 4 then answer = .error (.wrongWidth t.size)
    else if t.addr.toNat < base.toNat ∨ 0x1000000 ≤ off then answer = .error (.outsideWindow t.addr.toNat)
    else match t.dir with
      | .read => decode (BitVec.ofNat 32 off :: encodeNat x) = asDecoded
      | .write => decode (BitVec.ofNat 32 (0x1000000 + off) :: encodeExpr (.lit t.data)) = asDecoded

/-! ### The step -/

/-- The step runs the decoded instruction (40 R400, 10 R102): of program text, whose rest stays to be run with its locals,
and of an expansion. A primitive runs at a turn of the CPU, which it uses up (the turns are the model's choice: log 7). That
a driver operation is replaced in a step of its own, whoever's turn it is and using no turn, is the model's reading of R102
(log 9). -/
def Obligations.StepRunsTheDecodedInstruction : Prop :=
  ∀ (s : State) (ts : List Task) (q : List Config.Turn) (i : Instr), s.params.mboxBuf.toNat % 16 = 0 →
    (∀ (ws rest : List Word) (env : Locals), s.cpu.cont = .code ws env :: ts → decode ws = .ok i rest →
      (i.expands = true → step s = exec i (s.setCont (.code rest env :: ts))) ∧
      (i.expands = false → s.sched = .cpu :: q → step s = exec i ((s.setSched q).setCont (.code rest env :: ts)))) ∧
    (s.cpu.cont = .op i :: ts →
      (i.expands = true → step s = exec i (s.setCont ts)) ∧
      (i.expands = false → s.sched = .cpu :: q → step s = exec i ((s.setSched q).setCont ts)))

/-- A final state (70 R1130): the foreground program has ended. No agent steps after it, and no IRQ entry is taken: the
machine stays as it is (that the step answers the same state is the model's choice, log 10). -/
def Obligations.FinalStateStays : Prop :=
  ∀ s : State, s.params.mboxBuf.toNat % 16 = 0 → s.cpu.ctx = .fg → (∀ t ∈ s.cpu.cont, ∃ env, t = .code [] env) →
    step s = .next s

/-! ### Invariants and rules over all steps -/

/-- Every step keeps the invariant of the machine (Safety.lean): from any state that meets it, not only from reset. -/
def Obligations.EveryStepKeepsTheInvariant : Prop :=
  ∀ s t : State, Invariant s → step s = .next t → Invariant t

/-- The reset state is an entry state of R160, and every entry state, whatever its draws, meets the invariant. -/
def Obligations.EntryStatesMeetTheInvariant : Prop :=
  IsEntry State.reset ∧ ∀ s : State, IsEntry s → Invariant s

/-- A register whose reserved values are refused on a write (30 R330 d) never comes to hold one. -/
def Obligations.RefusedValuesAreNeverHeld : Prop :=
  LegalFields State.reset ∧ ∀ s t : State, LegalFields s → step s = .next t → LegalFields t

/-- What is fixed once: the parameters (R20), the vector base once it is installed (R1010: "immutable after
installation"), the phase `Armed` (R861: "one-way"). -/
def Obligations.InstalledTableAndArmedPhaseStay : Prop :=
  ∀ s t : State, step s = .next t → FixedOnce s t

/-- The contexts (R1020, R1021, R1030, R1031, R1050): `Irq` is entered only by IRQ entry, while it is enabled and a table
is installed, and the whole foreground continuation is saved; it is left only by `IRET`, which restores it; between the
two nothing changes the saved continuation, the saved mask, or a mask that is set. -/
def Obligations.ContextsChangeOnlyByEntryAndReturn : Prop :=
  ∀ s t : State, step s = .next t →
    (s.cpu.ctx = .fg → t.cpu.ctx = .irq →
      s.nextTurn = .irqEntry ∧ irqEnabled s = true ∧ s.cpu.vbarSet = true ∧ t.cpu.saved = some s.cpu.cont ∧
        t.cpu.savedMask = s.cpu.irqMask ∧ t.cpu.irqMask = true ∧ t.cpu.cont = [.op .handleIrq, .op .iret]) ∧
    (s.cpu.ctx = .irq → t.cpu.ctx = .fg →
      (∃ tk ts rest, s.cpu.cont = tk :: ts ∧ Task.fetch tk = some (.iret, rest)) ∧
        (∀ c, s.cpu.saved = some c → t.cpu.cont = c) ∧ t.cpu.saved = none ∧ t.cpu.irqMask = s.cpu.savedMask) ∧
    (s.cpu.ctx = .irq → t.cpu.ctx = .irq →
      t.cpu.saved = s.cpu.saved ∧ t.cpu.savedMask = s.cpu.savedMask ∧ (s.cpu.irqMask = true → t.cpu.irqMask = true))

/-- Where these move. The counter: by the timer's step, by one (R700, R710). The tick: by the step of R735, by one. What the
peer has received: by the transmit step of R960 out of loopback, which adds the oldest byte on a good line and the draw list
on a bad one. The garbled mark: it is set by a transmit or a receive step that moves a byte over a bad line (R960, R961, R111),
and stays. `S.cyc`: every CPU step adds at least 1 (R104), whether it is the program's or IRQ entry; no other step moves it
(that what has no cost runs at once is log 9, the turns are log 7). -/
def Obligations.CountersAndObservablesOnlyGrow : Prop :=
  ∀ s t : State, step s = .next t →
    (t.timer.cnt = s.timer.cnt ∨ (s.nextTurn = .timer ∧ t.timer.cnt = s.timer.cnt + 1#64)) ∧
    (t.soft.tick = s.soft.tick ∨ ((∃ ts, s.cpu.cont = .tickStep :: ts) ∧ t.soft.tick = s.soft.tick + 1#32)) ∧
    let on (en : Nat) : Prop := s.uart.cr.getLsbD 0 = true ∧ s.uart.cr.getLsbD en = true ∧ s.uart.cr.getLsbD 7 = false
    let sends (g : List Byte) : Prop := s.nextTurn = .uartTx g ∧ s.uart.txq ≠ [] ∧ on 8
    let receives : Prop := (∃ good bad fe pe be, s.nextTurn = .uartRx good bad fe pe be) ∧ on 9
    let cpuMoves : Prop := s.finished = false ∧ silentHead s = false ∧
      (s.nextTurn = .cpu ∧ s.cpu.cont ≠ [] ∨ s.nextTurn = .irqEntry ∧ irqEnabled s = true)
    (t.line.tx = s.line.tx ∨ ∃ g b rest, sends g ∧ s.uart.txq = b :: rest ∧
      t.line.tx = s.line.tx ++ if lineOkTx s then [b] else g) ∧
    (t.line.garbled = s.line.garbled ∨
      t.line.garbled = true ∧ ((∃ g, sends g ∧ lineOkTx s = false) ∨ receives ∧ lineOkRx s = false)) ∧
    (cpuMoves → s.cyc < t.cyc) ∧ (¬ cpuMoves → t.cyc = s.cyc)

/-- The value of a read bound to local `x` is what an expression reads from it afterwards, and no other local changes
(R100, R101, R340); the arrival of a value, wherever it goes, changes no register, no FIFO and no byte of RAM. -/
def Obligations.ReadBindsItsLocalAlone : Prop :=
  (∀ (x : Nat) (v : Word) (s : State), (∃ ws env, Task.code ws env ∈ s.cpu.cont) →
    (deliver (.ret (.loc x)) v s).eval (.loc x) = v ∧
      ∀ y, y ≠ x → (deliver (.ret (.loc x)) v s).eval (.loc y) = s.eval (.loc y)) ∧
  (∀ (d : Dest) (v : Word) (s : State),
    (∀ a, (deliver d v s).byteAt a = s.byteAt a) ∧ (deliver d v s).params = s.params ∧ (deliver d v s).gpio = s.gpio ∧
      (deliver d v s).timer = s.timer ∧ (deliver d v s).intc = s.intc ∧ (deliver d v s).mbox = s.mbox ∧
      (deliver d v s).uart = s.uart ∧ (deliver d v s).line = s.line ∧ (deliver d v s).cyc = s.cyc ∧
      (deliver d v s).soft.tick = s.soft.tick ∧ (deliver d v s).soft.inputHandler = s.soft.inputHandler ∧
      (deliver d v s).soft.uartInitialized = s.soft.uartInitialized ∧
      (deliver d v s).cpu = { s.cpu with cont := (deliver d v s).cpu.cont })

/-! ### Register accesses with no register behind them -/

/-- R405: a write to each of the 14 read-only registers changes no state except `S.cyc` (the draw index is the model's
own). -/
def Obligations.WriteToReadOnlyRegisterChangesNothing : Prop :=
  (∀ v, [Instr.wr32Gplev0 v, .wr32Gplev1 v, .wr32StClo v, .wr32StChi v, .wr32IrqBasicPending v, .wr32IrqPending1 v,
      .wr32IrqPending2 v, .wr32Mbox0Read v, .wr32Mbox0Peek v, .wr32Mbox0Status v, .wr32Mbox1Status v, .wr32UartFr v,
      .wr32UartRis v, .wr32UartMis v].map Instr.key =
    [0x01200034#32, 0x01200038#32, 0x01003004#32, 0x01003008#32, 0x0100B200#32, 0x0100B204#32, 0x0100B208#32,
      0x0100B880#32, 0x0100B890#32, 0x0100B898#32, 0x0100B8B8#32, 0x01201018#32, 0x0120103C#32, 0x01201040#32]) ∧
  ∀ w ∈ [Instr.wr32Gplev0, .wr32Gplev1, .wr32StClo, .wr32StChi, .wr32IrqBasicPending, .wr32IrqPending1,
      .wr32IrqPending2, .wr32Mbox0Read, .wr32Mbox0Peek, .wr32Mbox0Status, .wr32Mbox1Status, .wr32UartFr, .wr32UartRis,
      .wr32UartMis],
    ∀ (v : Expr) (s : State), ∃ t, exec (w v) s = .next t ∧ s.cyc + 1 ≤ t.cyc ∧
      (t.setCyc s.cyc).setDraws s.draws = s ∧ ∀ a, t.byteAt a = s.byteAt a

/-- R406: a read of each of the 6 write-only registers gives some value and changes no state: nothing is pushed or
cleared. -/
def Obligations.ReadOfWriteOnlyRegisterChangesNothing : Prop :=
  (∀ d, [Instr.rd32Gpset0 d, .rd32Gpset1 d, .rd32Gpclr0 d, .rd32Gpclr1 d, .rd32Mbox1Write d, .rd32UartIcr d].map Instr.key =
    [0x0020001C#32, 0x00200020#32, 0x00200028#32, 0x0020002C#32, 0x0000B8A0#32, 0x00201044#32]) ∧
  ∀ r ∈ [Instr.rd32Gpset0, .rd32Gpset1, .rd32Gpclr0, .rd32Gpclr1, .rd32Mbox1Write, .rd32UartIcr],
    ∀ (d : Dest) (s : State), ∃ x, exec (r d) s = .next (deliver d x (s.retire 1)) ∧
      ((s.retire 1).setCyc s.cyc).setDraws s.draws = s

/-! ### GPIO -/

/-- R501, R503 to R508: a read of GPFSEL(k) gives the function of each of the register's pins in its field (the reserved
bits are draws, R407). R515, R518, R519, R520, R527, R528: GPLEV(h) gives the output latch of each output pin of the bank,
GPPUDCLK(h) the pull clock of each of its pins, GPPUD the pull control in bits 1:0. The reads change nothing else. -/
def Obligations.GpioReads : Prop :=
  (∀ d, [Instr.rd32Gpfsel0 d, .rd32Gpfsel1 d, .rd32Gpfsel2 d, .rd32Gpfsel3 d, .rd32Gpfsel4 d, .rd32Gpfsel5 d,
      .rd32Gplev0 d, .rd32Gplev1 d, .rd32Gppudclk0 d, .rd32Gppudclk1 d, .rd32Gppud d].map Instr.key =
    [0x00200000#32, 0x00200004#32, 0x00200008#32, 0x0020000C#32, 0x00200010#32, 0x00200014#32, 0x00200034#32,
      0x00200038#32, 0x00200098#32, 0x0020009C#32, 0x00200094#32]) ∧
  (∀ kr ∈ [(0, Instr.rd32Gpfsel0), (1, .rd32Gpfsel1), (2, .rd32Gpfsel2), (3, .rd32Gpfsel3), (4, .rd32Gpfsel4),
      (5, .rd32Gpfsel5)], ∀ (d : Dest) (s : State), ∃ x,
    exec (kr.2 d) s = .next (deliver d x (s.retire 1)) ∧
    ∀ (p : Nat) (hp : p < 54), p / 10 = kr.1 → x.extractLsb' (3 * (p % 10)) 3 = s.gpio.fsel[p]) ∧
  (∀ hr ∈ [(0, Instr.rd32Gplev0), (1, .rd32Gplev1)], ∀ (d : Dest) (s : State), ∃ x,
    exec (hr.2 d) s = .next (deliver d x (s.retire 1)) ∧
    ∀ (p : Nat) (hp : p < 54), (p < 32 ↔ hr.1 = 0) → s.gpio.fsel[p] = 0b001#3 →
      x.getLsbD (p % 32) = s.gpio.out.getLsbD p) ∧
  (∀ hr ∈ [(0, Instr.rd32Gppudclk0), (1, .rd32Gppudclk1)], ∀ (d : Dest) (s : State), ∃ x,
    exec (hr.2 d) s = .next (deliver d x (s.retire 1)) ∧
    ∀ p < 54, (p < 32 ↔ hr.1 = 0) → x.getLsbD (p % 32) = s.gpio.pudclk.getLsbD p) ∧
  ∀ (d : Dest) (s : State), ∃ x, exec (.rd32Gppud d) s = .next (deliver d x (s.retire 1)) ∧
    x.extractLsb' 0 2 = s.gpio.pud

/-- R502, R509 to R514: a write of GPFSEL(k) sets the function of each of the register's pins from its field; no other pin
and no other state changes. -/
def Obligations.FunctionSelectWrites : Prop :=
  (∀ v, [Instr.wr32Gpfsel0 v, .wr32Gpfsel1 v, .wr32Gpfsel2 v, .wr32Gpfsel3 v, .wr32Gpfsel4 v, .wr32Gpfsel5 v].map Instr.key =
    [0x01200000#32, 0x01200004#32, 0x01200008#32, 0x0120000C#32, 0x01200010#32, 0x01200014#32]) ∧
  ∀ kw ∈ [(0, Instr.wr32Gpfsel0), (1, .wr32Gpfsel1), (2, .wr32Gpfsel2), (3, .wr32Gpfsel3), (4, .wr32Gpfsel4),
      (5, .wr32Gpfsel5)],
    ∀ (v : Expr) (s : State), ∃ f : PerPin (BitVec 3),
      exec (kw.2 v) s = .next ((s.setGpio { s.gpio with fsel := f }).retire 1) ∧
      ∀ (p : Nat) (hp : p < 54),
        f[p] = if p / 10 = kw.1 then (s.eval v).extractLsb' (3 * (p % 10)) 3 else s.gpio.fsel[p]

/-- R523 to R526: GPSET(h) sets and GPCLR(h) clears the output latch of each pin of bank `h` whose bit is 1; a 0 bit and
every pin of the other bank keep their latch; no other state changes. -/
def Obligations.OutputSetAndClearWrites : Prop :=
  (∀ v, [Instr.wr32Gpset0 v, .wr32Gpset1 v, .wr32Gpclr0 v, .wr32Gpclr1 v].map Instr.key =
    [0x0120001C#32, 0x01200020#32, 0x01200028#32, 0x0120002C#32]) ∧
  ∀ hw ∈ [(0, true, Instr.wr32Gpset0), (1, true, .wr32Gpset1), (0, false, .wr32Gpclr0), (1, false, .wr32Gpclr1)],
    ∀ (v : Expr) (s : State), ∃ o : BitVec 54,
      exec (hw.2.2 v) s = .next ((s.setGpio { s.gpio with out := o }).retire 1) ∧
      ∀ p < 54, o.getLsbD p =
        if (p < 32 ↔ hw.1 = 0) ∧ (s.eval v).getLsbD (p % 32) = true then hw.2.1 else s.gpio.out.getLsbD p

/-- R517 with R516 (b): the value 3 is refused; another one sets the pull control and its time, and where it changes the
control, the pull of every pin whose clock has been high for less than 150 cycles becomes `Unknown`; no other state
changes. -/
def Obligations.PullControlWrite : Prop :=
  (∀ v, (Instr.wr32Gppud v).key = 0x01200094#32) ∧
  ∀ (v : Expr) (s : State),
    let mode := (s.eval v).extractLsb' 0 2
    (mode = 3#2 → exec (.wr32Gppud v) s = .refused .reservedPud) ∧
    (mode ≠ 3#2 → ∃ pull : PerPin Pull,
      exec (.wr32Gppud v) s =
        .next ((s.setGpio { s.gpio with pull := pull, pud := mode, pudT := s.cyc }).retire 1) ∧
      ∀ (p : Nat) (hp : p < 54),
        pull[p] =
          if mode ≠ s.gpio.pud ∧ s.gpio.pudclk.getLsbD p = true ∧ s.cyc - s.gpio.clkT[p] < 150 then Pull.unknown
          else s.gpio.pull[p])

/-- R521, R522 with R516 (a) and (c): a 0-to-1 edge of a pin's clock samples the pull control, set up for at least 150
cycles or else `Unknown`, and notes the time; every other pin keeps its pull, sample and time; the clock lines of the bank
take the value's bits; no other state changes. (R516 gives no sample of a pull control of 3, which only an entry draw can
hold: nothing is said of it.) -/
def Obligations.PullClockWrites : Prop :=
  (∀ v, [Instr.wr32Gppudclk0 v, .wr32Gppudclk1 v].map Instr.key = [0x01200098#32, 0x0120009C#32]) ∧
  ∀ hw ∈ [(0, Instr.wr32Gppudclk0), (1, .wr32Gppudclk1)], ∀ (v : Expr) (s : State),
    let sampled : Pull :=
      if s.cyc - s.gpio.pudT < 150 then .unknown
      else if s.gpio.pud = 0#2 then .off else if s.gpio.pud = 1#2 then .down else .up
    let edge (p : Nat) : Prop :=
      (p < 32 ↔ hw.1 = 0) ∧ s.gpio.pudclk.getLsbD p = false ∧ (s.eval v).getLsbD (p % 32) = true
    ∃ g : Gpio, exec (hw.2 v) s =
        .next ((s.setGpio { s.gpio with pudclk := g.pudclk, pull := g.pull, cand := g.cand, clkT := g.clkT }).retire 1) ∧
      ∀ (p : Nat) (hp : p < 54),
        (g.pudclk.getLsbD p = if (p < 32 ↔ hw.1 = 0) then (s.eval v).getLsbD (p % 32) else s.gpio.pudclk.getLsbD p) ∧
        (edge p → g.pull[p] = g.cand[p] ∧ g.clkT[p] = s.cyc ∧
          (s.gpio.pud ≠ 3#2 ∨ s.cyc - s.gpio.pudT < 150 → g.cand[p] = sampled)) ∧
        (¬ edge p → g.pull[p] = s.gpio.pull[p] ∧ g.cand[p] = s.gpio.cand[p] ∧ g.clkT[p] = s.gpio.clkT[p])

/-- R540 to R543: what the four GPIO operations are replaced by. A pin above 53 issues no access; `gpio_get_input` is then
false. `gpio_set_function` of another pin reads its register, and the value read (its reserved bits with it) is written back
with the pin's field alone replaced. The rules give `gpio_set_output` a bool; that its operand here is a word, true when it is
not 0, is the model's choice (DESIGN CHOICE, log 20). -/
def Obligations.GpioOperationsExpand : Prop :=
  (∀ p f l r m, [Instr.gpioSetFunction p f, .gpioSetOutput p l, .gpioGetInput p r, .gpioSetPull p m].map Instr.key =
    [0x40001000#32, 0x40001100#32, 0x40001200#32, 0x40001300#32]) ∧
  (∀ row ∈ [(0, Instr.rd32Gpfsel0, Instr.wr32Gpfsel0), (1, .rd32Gpfsel1, .wr32Gpfsel1), (2, .rd32Gpfsel2, .wr32Gpfsel2),
      (3, .rd32Gpfsel3, .wr32Gpfsel3), (4, .rd32Gpfsel4, .wr32Gpfsel4), (5, .rd32Gpfsel5, .wr32Gpfsel5)],
    ∀ (j f : Nat) (s : State), j < 10 → 10 * row.1 + j < 54 → f ≤ 7 →
      exec (.gpioSetFunction (10 * row.1 + j) f) s = .next (s.push [.op (row.2.1 (.fselModify (10 * row.1 + j) f))]) ∧
      ∀ x : Word, deliver (.fselModify (10 * row.1 + j) f) x s =
        s.push [.op (row.2.2 (.lit ((x &&& ~~~(7#32 <<< (3 * j))) ||| (BitVec.ofNat 32 f <<< (3 * j)))))]) ∧
  ∀ (p : Nat) (s : State),
    (53 < p →
      (∀ f, exec (.gpioSetFunction p f) s = .next s) ∧ (∀ l, exec (.gpioSetOutput p l) s = .next s) ∧
      (∀ r, exec (.gpioGetInput p r) s = .next (giveResult r (.bool false) s)) ∧
      (∀ m, exec (.gpioSetPull p m) s = .next s)) ∧
    (∀ (b : Nat) (r : Ret) (x : Word), deliver (.levelBit b r) x s = giveResult r (.bool (x.getLsbD b)) s) ∧
    (p < 32 → ∀ l r m,
      exec (.gpioSetOutput p l) s =
        .next (s.push [.op (if s.eval l = 0#32 then .wr32Gpclr0 (.lit (1#32 <<< p)) else .wr32Gpset0 (.lit (1#32 <<< p)))]) ∧
      exec (.gpioGetInput p r) s = .next (s.push [.op (.rd32Gplev0 (.levelBit p r))]) ∧
      exec (.gpioSetPull p m) s =
        .next (s.push [.op (.wr32Gppud (.lit (BitVec.ofNat 32 m))), .op (.spin 150),
          .op (.wr32Gppudclk0 (.lit (1#32 <<< p))), .op (.spin 150), .op (.wr32Gppud (.lit 0#32)),
          .op (.wr32Gppudclk0 (.lit 0#32))])) ∧
    (32 ≤ p → p ≤ 53 → ∀ l r m,
      exec (.gpioSetOutput p l) s =
        .next (s.push [.op (if s.eval l = 0#32 then .wr32Gpclr1 (.lit (1#32 <<< (p - 32)))
          else .wr32Gpset1 (.lit (1#32 <<< (p - 32))))]) ∧
      exec (.gpioGetInput p r) s = .next (s.push [.op (.rd32Gplev1 (.levelBit (p - 32) r))]) ∧
      exec (.gpioSetPull p m) s =
        .next (s.push [.op (.wr32Gppud (.lit (BitVec.ofNat 32 m))), .op (.spin 150),
          .op (.wr32Gppudclk1 (.lit (1#32 <<< (p - 32)))), .op (.spin 150), .op (.wr32Gppud (.lit 0#32)),
          .op (.wr32Gppudclk1 (.lit 0#32))]))

/-- R540: `gpio_set_function(p, f)` on pin `p` in 0..53, run to its end by the CPU: it completes, the pin has function
`f`, every other pin its own, whatever the reserved bits read as; the rest of the program is still to run. -/
def Obligations.SetFunctionSetsOnePin : Prop :=
  (∀ p f, (Instr.gpioSetFunction p f).key = 0x40001000#32) ∧
  ∀ (p f : Nat) (s : State) (ts : List Task), p < 54 → f ≤ 7 →
    (∃ rd, exec (.gpioSetFunction p f) s = .next (s.push [.op rd])) ∧
    (s.cpu.cont = .op (.gpioSetFunction p f) :: ts →
      ∃ (t : State) (g : PerPin (BitVec 3)), cpuSteps 3 s = .next t ∧
        t.gpio = { s.gpio with fsel := g } ∧
        (∀ (q : Nat) (hq : q < 54), g[q] = if q = p then BitVec.ofNat 3 f else s.gpio.fsel[q]) ∧
        t.cpu = { s.cpu with cont := ts } ∧ t.soft = s.soft ∧ t.timer = s.timer ∧ t.intc = s.intc ∧ t.mbox = s.mbox ∧
        t.uart = s.uart ∧ t.line = s.line ∧ t.params = s.params ∧ ∀ a, t.byteAt a = s.byteAt a)

/-- R543 (its first corner case): `gpio_set_pull(p, mode)` whose pin's clock is low when it starts, run to its end by the
CPU, leaves the pin with the pull it asked for, the pull control 0 and every clock of the pin's bank low. -/
def Obligations.SetPullSetsThePull : Prop :=
  ∀ (p mode : Nat) (s : State) (ts : List Task) (hp : p < 54), mode ≤ 2 → s.gpio.pudclk.getLsbD p = false →
    s.cpu.cont = .op (.gpioSetPull p mode) :: ts →
    ∃ t, cpuSteps 7 s = .next t ∧
      t.gpio.pull[p] = (if mode = 0 then Pull.off else if mode = 1 then Pull.down else Pull.up) ∧ t.gpio.pud = 0#2 ∧
      (∀ q < 54, (q < 32 ↔ p < 32) → t.gpio.pudclk.getLsbD q = false) ∧ t.gpio.fsel = s.gpio.fsel ∧
      t.gpio.out = s.gpio.out ∧ s.cyc + 304 ≤ t.cyc ∧ t.cpu = { s.cpu with cont := ts } ∧ t.soft = s.soft ∧
      t.timer = s.timer ∧ t.intc = s.intc ∧ t.mbox = s.mbox ∧ t.uart = s.uart ∧ t.line = s.line ∧ t.params = s.params ∧
      ∀ a, t.byteAt a = s.byteAt a

/-! ### System timer -/

/-- R701, R703 to R708: the timer registers read the match flags, the two halves of the counter and the compare values,
and the reads change nothing else. -/
def Obligations.TimerReads : Prop :=
  (∀ d, [Instr.rd32StCs d, .rd32StClo d, .rd32StChi d, .rd32StC0 d, .rd32StC1 d, .rd32StC2 d, .rd32StC3 d].map Instr.key =
    [0x00003000#32, 0x00003004#32, 0x00003008#32, 0x0000300C#32, 0x00003010#32, 0x00003014#32, 0x00003018#32]) ∧
  ∀ (d : Dest) (s : State),
    (∃ x, exec (.rd32StCs d) s = .next (deliver d x (s.retire 1)) ∧ x.extractLsb' 0 4 = s.timer.m) ∧
    exec (.rd32StClo d) s = .next (deliver d (s.timer.cnt.extractLsb' 0 32) (s.retire 1)) ∧
    exec (.rd32StChi d) s = .next (deliver d (s.timer.cnt.extractLsb' 32 32) (s.retire 1)) ∧
    ∀ nr ∈ [((0 : Fin 4), Instr.rd32StC0), (1, .rd32StC1), (2, .rd32StC2), (3, .rd32StC3)],
      exec (nr.2 d) s = .next (deliver d s.timer.cmp[nr.1] (s.retire 1))

/-- R702, R715 to R718: a write of ST_Cn sets that compare value and touches no flag; a write of ST_CS clears the flags
whose bits are 1 and no other; no other state changes. -/
def Obligations.TimerWrites : Prop :=
  (∀ v, [Instr.wr32StCs v, .wr32StC0 v, .wr32StC1 v, .wr32StC2 v, .wr32StC3 v].map Instr.key =
    [0x01003000#32, 0x0100300C#32, 0x01003010#32, 0x01003014#32, 0x01003018#32]) ∧
  ∀ (v : Expr) (s : State),
    (∀ nw ∈ [((0 : Fin 4), Instr.wr32StC0), (1, .wr32StC1), (2, .wr32StC2), (3, .wr32StC3)], ∃ cmp : Vector Word 4,
      exec (nw.2 v) s = .next ((s.setTimer { s.timer with cmp := cmp }).retire 1) ∧
      ∀ k : Fin 4, cmp[k] = if k = nw.1 then s.eval v else s.timer.cmp[k]) ∧
    ∃ m : BitVec 4, exec (.wr32StCs v) s = .next ((s.setTimer { s.timer with m := m }).retire 1) ∧
      ∀ k < 4, m.getLsbD k = (s.timer.m.getLsbD k && !(s.eval v).getLsbD k)

/-- R710: at the timer's turn the counter goes up by one, modulo 2^64, and the flag of every channel whose compare value
its low half now equals is set; no flag is cleared, and nothing else changes but the draw index. At the turn of every other
agent (UART line, GPU; 00 R5) the step is that agent's effect, which the statements on `agentEffect` give. (That a list of
turns says who moves is the model's choice: log 7; so is the draw index: log 8.) -/
def Obligations.TimerTurnCountsAndMatches : Prop :=
  ∀ (s : State) (q : List Config.Turn), s.params.mboxBuf.toNat % 16 = 0 → s.finished = false → silentHead s = false →
    (s.sched = .timer :: q → ∃ m : BitVec 4,
      step s = .next (((s.setSched q).setTimer { s.timer with cnt := s.timer.cnt + 1#64, m := m }).skip) ∧
      ∀ n : Fin 4, m.getLsbD n =
        (s.timer.m.getLsbD n || decide ((s.timer.cnt + 1#64).extractLsb' 0 32 = s.timer.cmp[n]))) ∧
    ∀ a : Config.Turn, a ≠ .cpu → a ≠ .irqEntry → s.sched = a :: q →
      step s = .next (agentEffect a (s.setSched q)).skip

/-- R711: after a write of `v` to a compare register whose flag is clear, when the low half of the counter is `c`, the
flag is set first by the `d`-th timer step, `d = (v - c) mod 2^32`, and `d = 2^32` when `v = c`; it stays set. -/
def Obligations.MatchComesAfterTheDistance : Prop :=
  ∀ (t : Timer) (n : Fin 4) (k : Nat), t.m.getLsbD n = false →
    let c := t.cnt.extractLsb' 0 32
    let d := if t.cmp[n] = c then 4294967296 else (t.cmp[n] - c).toNat
    (timerTick^[k] t).m.getLsbD n = decide (d ≤ k)

/-- R731: the three reads of the operation, each of which hands its value on to the next: the high half, the low half, the
high half again. With `j` timer steps between the first and the second read and `k` between the second and the third, and no
wrap of the 64-bit counter, the first read (at counter value `c`) hands on the high half of `c`, the second the low half of
its own value, and the third ends the operation on equal high halves, with the counter's value at the middle read as its
result; unequal ones read again from the first. -/
def Obligations.NowReadsTheCounterAtTheMiddleRead : Prop :=
  (∀ (r : Ret) (hi v : Word) (s : State),
    deliver (.now64Hi r) v s = s.push [.op (.rd32StClo (.now64Lo r v))] ∧
    deliver (.now64Lo r hi) v s = s.push [.op (.rd32StChi (.now64Hi2 r hi v))]) ∧
  ∀ (x : Nat) (c : BitVec 64) (j k : Nat) (s : State), c.toNat + j + k < 2 ^ 64 →
    let mid := c + BitVec.ofNat 64 j
    let hi := c.extractLsb' 32 32
    let third := Instr.rd32StChi (.now64Hi2 (.loc x) hi (mid.extractLsb' 0 32))
    (s.timer.cnt = c → exec (.rd32StChi (.now64Hi (.loc x))) s =
      .next ((s.retire 1).push [.op (.rd32StClo (.now64Lo (.loc x) hi))])) ∧
    (s.timer.cnt = mid → exec (.rd32StClo (.now64Lo (.loc x) hi)) s = .next ((s.retire 1).push [.op third])) ∧
    (s.timer.cnt = c + BitVec.ofNat 64 (j + k) →
      (s.timer.cnt.extractLsb' 32 32 = hi →
        exec third s = .next ((s.retire 1).setCont (bindScope x (.dword mid) s.cpu.cont))) ∧
      (s.timer.cnt.extractLsb' 32 32 ≠ hi →
        exec third s = .next ((s.retire 1).push [.op (.rd32StChi (.now64Hi (.loc x)))])))

/-- R732. A value at or above `target` ends phase 2, and with it the sleep; a lower one reads again. A value below `start` ends
phase 1 and starts phase 2; another one reads again. So a sleep whose waits have ended has lasted at least `d` timer steps. The
start read sees counter value `c0`; without a wrap of the sum there is one wait, and the read that ends it sees `c2`; with a wrap there are two, ended by
reads that see `c1` and then `c2`. (The counter values are exact; it does not wrap at 2^64 in between.) -/
def Obligations.SleepLastsAtLeastItsDuration : Prop :=
  (∀ (start target v : Word) (s : State),
    (target.toNat ≤ v.toNat → deliver (.sleepUntil target) v s = s) ∧
    (v.toNat < target.toNat → deliver (.sleepUntil target) v s = s.push [.op (.rd32StClo (.sleepUntil target))]) ∧
    (v.toNat < start.toNat → deliver (.sleepWrap start target) v s = s.push [.op (.rd32StClo (.sleepUntil target))]) ∧
    (start.toNat ≤ v.toNat →
      deliver (.sleepWrap start target) v s = s.push [.op (.rd32StClo (.sleepWrap start target))])) ∧
  ∀ (us : Word) (c0 c1 c2 : Nat) (s : State), c0 ≤ c1 → c1 ≤ c2 →
    let low (c : Nat) : Word := BitVec.ofNat 32 c
    let target := low c0 + us
    (c0 % 2 ^ 32 + us.toNat < 2 ^ 32 →
      deliver (.sleepStart us) (low c0) s = s.push [.op (.rd32StClo (.sleepUntil target))] ∧
      (deliver (.sleepUntil target) (low c2) s = s → us.toNat ≤ c2 - c0)) ∧
    (2 ^ 32 ≤ c0 % 2 ^ 32 + us.toNat →
      deliver (.sleepStart us) (low c0) s = s.push [.op (.rd32StClo (.sleepWrap (low c0) target))] ∧
      (deliver (.sleepWrap (low c0) target) (low c1) s = s.push [.op (.rd32StClo (.sleepUntil target))] →
        deliver (.sleepUntil target) (low c2) s = s → us.toNat ≤ c2 - c0))

/-- R730 to R734, R736: what the timer operations start with; `ticks_ms` is one CPU step that answers the tick counter.
The value that a read of ST_CLO gives then arms channel 1 (R734). -/
def Obligations.TimerOperationsExpand : Prop :=
  (∀ r e, [Instr.timerNowUs r, .timerNowUs64 r, .timerSleepUs e, .timerSleepMs e, .timerArmPeriodic e, .ticksMs r].map Instr.key =
    [0x40003000#32, 0x40003100#32, 0x40003200#32, 0x40003300#32, 0x40003400#32, 0x40003600#32]) ∧
  ∀ (r : Ret) (e : Expr) (s : State),
    exec (.timerNowUs r) s = .next (s.push [.op (.rd32StClo (.ret r))]) ∧
    exec (.timerNowUs64 r) s = .next (s.push [.op (.rd32StChi (.now64Hi r))]) ∧
    exec (.timerSleepUs e) s = .next (s.push [.op (.rd32StClo (.sleepStart (s.eval e)))]) ∧
    exec (.timerSleepMs e) s = .next (s.push [.op (.timerSleepUs (.lit (s.eval e * 1000#32)))]) ∧
    exec (.timerArmPeriodic e) s = .next (s.push [.op (.rd32StClo (.armNow (s.eval e)))]) ∧
    (∀ v : Word, deliver (.armNow (s.eval e)) v s = s.push [.op (.wr32StC1 (.lit (v + s.eval e * 1000#32)))]) ∧
    exec (.ticksMs r) s = .next (giveResult r (.word s.soft.tick) (s.retire 1))

/-- R735: `timer_on_interrupt()`, run to its end by the CPU alone: the tick counter goes up by one modulo 2^32, the flag
of channel 1 is cleared, channel 1 is rearmed 10 000 after the current count; nothing else changes. -/
def Obligations.TimerInterruptTicksAndRearms : Prop :=
  ((Instr.timerOnInterrupt).key = 0x40003500#32) ∧
  ∀ (s : State) (ts : List Task),
    exec .timerOnInterrupt s =
      .next (s.push [.op (.wr32StCs (.lit 0x00000002#32)), .tickStep, .op (.rd32StClo .rearm)]) ∧
    (s.cpu.cont = .op .timerOnInterrupt :: ts → ∃ (t : State) (cmp : Vector Word 4) (m : BitVec 4),
      cpuSteps 5 s = .next t ∧ t.cpu = { s.cpu with cont := ts } ∧ t.soft = { s.soft with tick := s.soft.tick + 1#32 } ∧
      t.timer = { s.timer with cmp := cmp, m := m } ∧
      (∀ k : Fin 4, cmp[k] = if k = 1 then s.timer.cnt.extractLsb' 0 32 + 10000#32 else s.timer.cmp[k]) ∧
      (∀ k < 4, m.getLsbD k = (decide (k ≠ 1) && s.timer.m.getLsbD k)) ∧
      t.gpio = s.gpio ∧ t.intc = s.intc ∧ t.mbox = s.mbox ∧ t.uart = s.uart ∧ t.line = s.line ∧ t.mem = s.mem)

/-! ### Interrupt controller -/

/-- R807, R809 to R811, R815 to R817: the enable and disable registers read the enables, FIQ_CONTROL its eight bits; the
reads change nothing else. -/
def Obligations.EnableReads : Prop :=
  (∀ d, [Instr.rd32FiqControl d, .rd32EnableIrqs1 d, .rd32EnableIrqs2 d, .rd32EnableBasic d, .rd32DisableIrqs1 d,
      .rd32DisableIrqs2 d, .rd32DisableBasic d].map Instr.key =
    [0x0000B20C#32, 0x0000B210#32, 0x0000B214#32, 0x0000B218#32, 0x0000B21C#32, 0x0000B220#32, 0x0000B224#32]) ∧
  ∀ (d : Dest) (s : State),
    (∀ r ∈ [Instr.rd32EnableIrqs1, .rd32DisableIrqs1], exec (r d) s = .next (deliver d s.intc.en1 (s.retire 1))) ∧
    (∀ r ∈ [Instr.rd32EnableIrqs2, .rd32DisableIrqs2], exec (r d) s = .next (deliver d s.intc.en2 (s.retire 1))) ∧
    (∀ r ∈ [Instr.rd32EnableBasic, .rd32DisableBasic], ∃ x, exec (r d) s = .next (deliver d x (s.retire 1)) ∧
      x.extractLsb' 0 8 = s.intc.enb) ∧
    ∃ x, exec (.rd32FiqControl d) s = .next (deliver d x (s.retire 1)) ∧ x.extractLsb' 0 8 = s.intc.fiqc

/-- R808, R812 to R814, R818 to R820: a 1 written to an enable register sets the enable, a 1 written to a disable register
clears it, a 0 leaves it; FIQ_CONTROL takes its eight bits unless bit 7 is 1, which is refused; nothing else changes. -/
def Obligations.EnableWrites : Prop :=
  (∀ v, [Instr.wr32FiqControl v, .wr32EnableIrqs1 v, .wr32EnableIrqs2 v, .wr32EnableBasic v, .wr32DisableIrqs1 v,
      .wr32DisableIrqs2 v, .wr32DisableBasic v].map Instr.key =
    [0x0100B20C#32, 0x0100B210#32, 0x0100B214#32, 0x0100B218#32, 0x0100B21C#32, 0x0100B220#32, 0x0100B224#32]) ∧
  ∀ (v : Expr) (s : State),
    (∀ bw ∈ [(true, Instr.wr32EnableIrqs1), (false, .wr32DisableIrqs1)], ∃ e : Word,
      exec (bw.2 v) s = .next ((s.setIntc { s.intc with en1 := e }).retire 1) ∧
      ∀ i < 32, e.getLsbD i = if (s.eval v).getLsbD i then bw.1 else s.intc.en1.getLsbD i) ∧
    (∀ bw ∈ [(true, Instr.wr32EnableIrqs2), (false, .wr32DisableIrqs2)], ∃ e : Word,
      exec (bw.2 v) s = .next ((s.setIntc { s.intc with en2 := e }).retire 1) ∧
      ∀ i < 32, e.getLsbD i = if (s.eval v).getLsbD i then bw.1 else s.intc.en2.getLsbD i) ∧
    (∀ bw ∈ [(true, Instr.wr32EnableBasic), (false, .wr32DisableBasic)], ∃ e : BitVec 8,
      exec (bw.2 v) s = .next ((s.setIntc { s.intc with enb := e }).retire 1) ∧
      ∀ i < 8, e.getLsbD i = if (s.eval v).getLsbD i then bw.1 else s.intc.enb.getLsbD i) ∧
    ((s.eval v).getLsbD 7 = true → exec (.wr32FiqControl v) s = .refused .fiqUnmodelled) ∧
    ((s.eval v).getLsbD 7 = false → exec (.wr32FiqControl v) s =
      .next ((s.setIntc { s.intc with fiqc := (s.eval v).extractLsb' 0 8 }).retire 1))

/-- R801, R802, R804 to R806 with R113. IRQ_PENDING1 and IRQ_PENDING2 show every source that is high and that is enabled, or
not masked: `gpu_irq` 0 to 3 are the timer's match flags, 57 is the UART, and the others are any values. Bits 7:0 of
IRQ_BASIC_PENDING show the ARM sources in the same way; bit 8 is the OR of the GPU sources 0 to 31 and bit 9 of 32 to 63, each
but for the sources that have a bit of their own, bits 10 to 20 in the order of R802. So a masked register shows no disabled
source: with all of a bank's enables at 0 its bit is 0. -/
def Obligations.PendingReads : Prop :=
  (∀ d, [Instr.rd32IrqBasicPending d, .rd32IrqPending1 d, .rd32IrqPending2 d].map Instr.key =
    [0x0000B200#32, 0x0000B204#32, 0x0000B208#32]) ∧
  ∀ s : State,
    let shows (enable : Bool) : Bool := !s.params.pendingMasked || enable
    let own : List Nat := [7, 9, 10, 18, 19, 53, 54, 55, 56, 57, 62]
    ((∀ i < 4, gpuIrq s i = s.timer.m.getLsbD i) ∧ gpuIrq s 57 = ((s.uart.ris &&& s.uart.imsc) != 0#11)) ∧
    ∃ p1 p2 x : Word,
      (∀ d, exec (.rd32IrqPending1 d) s = .next (deliver d p1 (s.retire 1)) ∧
        exec (.rd32IrqPending2 d) s = .next (deliver d p2 (s.retire 1)) ∧
        exec (.rd32IrqBasicPending d) s = .next (deliver d x (s.retire 1))) ∧
      (∀ i < 32, p1.getLsbD i = (shows (s.intc.en1.getLsbD i) && gpuIrq s i) ∧
        p2.getLsbD i = (shows (s.intc.en2.getLsbD i) && gpuIrq s (32 + i))) ∧
      (∀ j < 8, x.getLsbD j = (shows (s.intc.enb.getLsbD j) && armIrq s j)) ∧
      (x.getLsbD 8 = true ↔ ∃ i < 32, i ∉ own ∧ p1.getLsbD i = true) ∧
      (x.getLsbD 9 = true ↔ ∃ i < 32, 32 + i ∉ own ∧ p2.getLsbD i = true) ∧
      (∀ k < 5, x.getLsbD (10 + k) = p1.getLsbD (own.getD k 0)) ∧
      (∀ k < 6, x.getLsbD (15 + k) = p2.getLsbD (own.getD (5 + k) 0 - 32)) ∧
      (s.params.pendingMasked = true → (s.intc.en1 = 0#32 → p1 = 0#32 ∧ x.getLsbD 8 = false) ∧
        (s.intc.en2 = 0#32 → p2 = 0#32 ∧ x.getLsbD 9 = false))

/-- R860 and R803: `irq_install()` from the foreground with no table installed, run to its end by the CPU alone, leaves
the state that the rule's example gives. For any enables the IRQ line is up exactly when some GPU or ARM source is both high
and enabled, whatever `P_PENDING_MASKED` is; with the enables of `irq_install` it is the timer's channel 1 or the UART. -/
def Obligations.InstallArmsTheTwoSources : Prop :=
  ((Instr.irqInstall).key = 0x40004000#32) ∧
  (∀ s : State, exec .irqInstall s =
    .next (s.push [.op (.setvbar (.lit s.params.vtAddr)), .op (.wr32StCs (.lit 0x00000002#32)),
      .op (.wr32UartIcr (.lit 0x7FF#32)), .op (.wr32DisableIrqs1 (.lit 0xFFFFFFFF#32)),
      .op (.wr32DisableIrqs2 (.lit 0xFFFFFFFF#32)), .op (.wr32DisableBasic (.lit 0xFF#32)),
      .op (.wr32EnableIrqs1 (.lit 0x00000002#32)), .op (.wr32EnableIrqs2 (.lit 0x02000000#32)), .cpsieArm])) ∧
  (∀ (s : State) (ts : List Task), s.cpu.ctx = .fg → s.cpu.vbarSet = false → s.params.vtAddr.toNat % 32 = 0 →
    s.cpu.cont = .op .irqInstall :: ts → ∃ t, cpuSteps 10 s = .next t ∧
      t.cpu = { s.cpu with vbar := s.params.vtAddr, vbarSet := true, irqMask := false, icPhase := .armed, cont := ts } ∧
      t.intc = { s.intc with en1 := 0x00000002#32, en2 := 0x02000000#32, enb := 0#8 } ∧
      t.timer = { s.timer with m := s.timer.m &&& 0b1101#4 } ∧ t.uart = { s.uart with ris := 0#11 } ∧
      t.soft = s.soft ∧ t.gpio = s.gpio ∧ t.mbox = s.mbox ∧ t.line = s.line ∧ t.mem = s.mem) ∧
  (∀ s : State,
    (irqLine s = true ↔
      (∃ i < 64, gpuIrq s i = true ∧ (if i < 32 then s.intc.en1.getLsbD i else s.intc.en2.getLsbD (i - 32)) = true) ∨
      (∃ j < 8, armIrq s j = true ∧ s.intc.enb.getLsbD j = true)) ∧
    ∀ b, irqLine { s with params := { s.params with pendingMasked := b } } = irqLine s) ∧
  (∀ s : State, s.intc.en1 = 0x00000002#32 → s.intc.en2 = 0x02000000#32 → s.intc.enb = 0#8 →
    irqLine s = (s.timer.m.getLsbD 1 || (s.uart.ris &&& s.uart.imsc) != 0#11))

/-- R870, R873, R871, R872: `handle_irq()` reads the three pending registers in order and then runs the timer's handler if
channel 1 is pending and, after it, the drain if the UART is; the drain starts with a non-blocking receive, whose byte
goes to the installed handler before the next receive and whose `none` ends the loop; installing a handler is one CPU
step. (That a handler is a table of program text with no locals of its own is the model's choice: log 17.) -/
def Obligations.HandlerServesTimerThenUart : Prop :=
  (∀ h, [Instr.handleIrq, .uartDrain, .installInputHandler h].map Instr.key =
    [0x40004100#32, 0x40004200#32, 0x40004300#32]) ∧
  (∀ s : State, exec .handleIrq s = .next (s.push [.op (.rd32IrqBasicPending .ignore), .op (.rd32IrqPending1 .irqPending1)])) ∧
  (∀ (s : State) (ts : List Task), s.cpu.cont = .op .handleIrq :: ts → ∃ t, cpuSteps 4 s = .next t ∧
    t.cpu.cont =
      (if (!s.params.pendingMasked || s.intc.en1.getLsbD 1) && s.timer.m.getLsbD 1 then [Task.op .timerOnInterrupt] else []) ++
      (if (!s.params.pendingMasked || s.intc.en2.getLsbD 25) && (s.uart.ris &&& s.uart.imsc) != 0#11 then
        [Task.op .uartDrain] else []) ++ ts ∧
    t.gpio = s.gpio ∧ t.timer = s.timer ∧ t.intc = s.intc ∧ t.mbox = s.mbox ∧ t.uart = s.uart ∧ t.soft = s.soft ∧
      t.line = s.line ∧ t.mem = s.mem) ∧
  (∀ s : State, exec .uartDrain s = .next (s.push [.op (.uartGetcNb .drain)])) ∧
  (∀ (s : State) (c : Byte), giveResult .drain (.optByte none) s = s ∧
    (s.soft.inputHandler = .echo → giveResult .drain (.optByte (some c)) s =
      s.push [.op (.echo (.lit (c.setWidth 32))), .op (.uartGetcNb .drain)]) ∧
    (∀ rows ws, s.soft.inputHandler = .table rows → rows[c.toNat]? = some ws →
      giveResult .drain (.optByte (some c)) s = s.push [.code ws [], .op (.uartGetcNb .drain)])) ∧
  (∀ (h : Handler) (s : State), exec (.installInputHandler h) s =
    .next ((s.setSoft { s.soft with inputHandler := h }).retire 1))

/-! ### Exceptions and CPU primitives -/

/-- R1020: at the turn of IRQ entry, when it is enabled, the machine saves the continuation and the mask, masks IRQs,
enters `Irq` and continues at the IRQ vector; with no table installed it faults; when it is not enabled nothing happens.
-/
def Obligations.IrqEntrySavesTheForeground : Prop :=
  ∀ (s : State) (q : List Config.Turn), s.params.mboxBuf.toNat % 16 = 0 → s.finished = false → silentHead s = false →
    s.sched = .irqEntry :: q →
    let enabled := s.cpu.ctx = .fg ∧ s.cpu.irqMask = false ∧ irqLine s = true ∧ s.cpu.cont ≠ []
    (enabled → s.cpu.vbarSet = true → step s = .next (((s.setSched q).setCpu { s.cpu with
      saved := some s.cpu.cont, savedMask := false, irqMask := true, ctx := .irq,
      cont := [.op .handleIrq, .op .iret] }).retire 1)) ∧
    (enabled → s.cpu.vbarSet = false → step s = .fault .irqWithoutTable) ∧
    (¬ enabled → step s = .next ((s.setSched q).skip))

/-- R425, R1030: `IRET` restores the saved continuation and mask and returns to the foreground; outside the interrupt
context it faults. -/
def Obligations.IretRestoresTheForeground : Prop :=
  (Instr.iret).key = 0x80000600#32 ∧ ∀ s : State,
    (s.cpu.ctx = .fg → exec .iret s = .fault .iretOutsideIrq) ∧
    (∀ c, s.cpu.ctx = .irq → s.cpu.saved = some c → exec .iret s = .next ((s.setCpu { s.cpu with
      cont := c, saved := none, irqMask := s.cpu.savedMask, ctx := .fg }).retire 1)) ∧
    (s.cpu.ctx = .irq → ∃ t, exec .iret s = .next t ∧ t.cpu.ctx = .fg ∧ t.cpu.saved = none)

/-- R420 to R424 with R104: `DMB` and `SPIN n` change nothing but `S.cyc`, by at least 1 and at least `max n 1`; `CPSID`
sets the IRQ mask, in either context; `SETVBAR` installs an aligned base once, and leaves the IRQ mask; `CPSIE` clears the
IRQ mask in the foreground; the second install, a base that is not 32-byte aligned, and `CPSIE` in the interrupt context
are refused. -/
def Obligations.CpuPrimitivesActAsTheirRules : Prop :=
  (∀ n a, [Instr.dmb, .setvbar a, .cpsie, .cpsid, .spin n].map Instr.key =
    [0x80000100#32, 0x80000200#32, 0x80000300#32, 0x80000400#32, 0x80000500#32]) ∧
  ∀ (n : Nat) (a : Expr) (s : State),
    exec .dmb s = .next (s.retire 1) ∧ exec (.spin n) s = .next (s.retire n) ∧
    s.cyc + n ≤ (s.retire n).cyc ∧ s.cyc + 1 ≤ (s.retire n).cyc ∧ ((s.retire n).setCyc s.cyc).setDraws s.draws = s ∧
    exec .cpsid s = .next ((s.setCpu { s.cpu with irqMask := true }).retire 1) ∧
    (s.cpu.vbarSet = true → exec (.setvbar a) s = .refused .vectorTableReinstalled) ∧
    (s.cpu.vbarSet = false → (s.eval a).toNat % 32 ≠ 0 → exec (.setvbar a) s = .refused .vbarMisaligned) ∧
    (s.cpu.vbarSet = false → (s.eval a).toNat % 32 = 0 →
      exec (.setvbar a) s = .next ((s.setCpu { s.cpu with vbar := s.eval a, vbarSet := true }).retire 1)) ∧
    (s.cpu.ctx = .irq → exec .cpsie s = .refused .nestedEnable) ∧
    (s.cpu.ctx = .fg → exec .cpsie s = .next ((s.setCpu { s.cpu with irqMask := false }).retire 1))

/-- R410, R210: `LDW` of an aligned address below the peripheral base gives the four bytes there, the lowest first, and
changes nothing else; another address is refused (the name of the refusal, and that alignment is looked
at first: DESIGN CHOICE, log 26). -/
def Obligations.LoadGivesTheFourBytes : Prop :=
  (∀ a d, (Instr.ldw a d).key = 0x80000700#32) ∧ ∀ (a : Expr) (d : Dest) (s : State),
    let addr := (s.eval a).toNat
    (addr % 4 = 0 → addr < s.params.periphBase.toNat → ∃ x,
      exec (.ldw a d) s = .next (deliver d x (s.retire 1)) ∧
      ∀ i < 4, x.extractLsb' (8 * i) 8 = s.byteAt (addr + i)) ∧
    (addr % 4 ≠ 0 → exec (.ldw a d) s = .refused (.misalignedAddress addr)) ∧
    (addr % 4 = 0 → s.params.periphBase.toNat ≤ addr → exec (.ldw a d) s = .refused (.outsideRam addr))

/-- R411, R210, R250: `STW` to an aligned address below the peripheral base and outside the installed vector table writes
the value's four bytes there, and no other byte of memory and no other state changes; another address is refused (the name of the refusal, and that alignment is looked
at first: DESIGN CHOICE, log 26). -/
def Obligations.StoreWritesTheFourBytes : Prop :=
  (∀ a v, (Instr.stw a v).key = 0x80000800#32) ∧ ∀ (a v : Expr) (s : State), s.mem.wf s.params = true →
    let addr := (s.eval a).toNat
    let inTable := s.cpu.vbarSet = true ∧ s.cpu.vbar.toNat ≤ addr ∧ addr < s.cpu.vbar.toNat + 32
    (addr % 4 = 0 → addr < s.params.periphBase.toNat → ¬ inTable → ∃ m : Memory,
      exec (.stw a v) s = .next ((s.setMem m).retire 1) ∧ m.wf s.params = true ∧
      ∀ x, (s.setMem m).byteAt x =
        if addr ≤ x ∧ x < addr + 4 then (s.eval v).extractLsb' (8 * (x - addr)) 8 else s.byteAt x) ∧
    (addr % 4 ≠ 0 → exec (.stw a v) s = .refused (.misalignedAddress addr)) ∧
    (addr % 4 = 0 → s.params.periphBase.toNat ≤ addr → exec (.stw a v) s = .refused (.outsideRam addr)) ∧
    (addr % 4 = 0 → addr < s.params.periphBase.toNat → inTable → exec (.stw a v) s = .refused (.vectorTableWrite addr))

/-! ### Mailbox -/

/-- R600 to R603: MBOX0_READ pops the head of the inbound FIFO, MBOX0_PEEK only reads it, an empty FIFO gives some value
and pops nothing; the status words show full in bit 31 and empty in bit 30; nothing else changes. -/
def Obligations.MailboxReads : Prop :=
  (∀ d, [Instr.rd32Mbox0Read d, .rd32Mbox0Peek d, .rd32Mbox0Status d, .rd32Mbox1Status d].map Instr.key =
    [0x0000B880#32, 0x0000B890#32, 0x0000B898#32, 0x0000B8B8#32]) ∧
  ∀ (d : Dest) (s : State),
    (s.mbox.inq = [] → ∃ x y, exec (.rd32Mbox0Read d) s = .next (deliver d x (s.retire 1)) ∧
      exec (.rd32Mbox0Peek d) s = .next (deliver d y (s.retire 1))) ∧
    (∀ w ws, s.mbox.inq = w :: ws →
      exec (.rd32Mbox0Read d) s = .next (deliver d w ((s.setMbox { s.mbox with inq := ws }).retire 1)) ∧
      exec (.rd32Mbox0Peek d) s = .next (deliver d w (s.retire 1))) ∧
    (∃ x, exec (.rd32Mbox0Status d) s = .next (deliver d x (s.retire 1)) ∧
      x.getLsbD 31 = decide (s.mbox.inq.length = s.params.mboxDepth) ∧ x.getLsbD 30 = decide (s.mbox.inq = [])) ∧
    ∃ x, exec (.rd32Mbox1Status d) s = .next (deliver d x (s.retire 1)) ∧
      x.getLsbD 31 = decide (s.mbox.outq.length = s.params.mboxDepth) ∧ x.getLsbD 30 = decide (s.mbox.outq = [])

/-- R604, R650, R652: MBOX1_WRITE pushes, and faults when the FIFO is full; `mbox_call` starts with a barrier and the wait
for the outbound FIFO, sends the word with the bus address and the channel, and waits while the inbound FIFO is empty (bit 30
of its status is 1), then reads it; `get_display_surface` answers the surface and faults when there is none. -/
def Obligations.MailboxWriteAndCall : Prop :=
  (∀ v r, [Instr.wr32Mbox1Write v, .mboxCall r, .getDisplaySurface r].map Instr.key =
    [0x0100B8A0#32, 0x40002000#32, 0x40002100#32]) ∧
  ∀ (v : Expr) (r : Ret) (s : State),
    (s.mbox.outq.length = s.params.mboxDepth → exec (.wr32Mbox1Write v) s = .fault .mboxOverflow) ∧
    (s.mbox.outq.length ≠ s.params.mboxDepth → exec (.wr32Mbox1Write v) s =
      .next ((s.setMbox { s.mbox with outq := s.mbox.outq ++ [s.eval v] }).retire 1)) ∧
    exec (.mboxCall r) s = .next (s.push [.op .dmb, .op (.rd32Mbox1Status (.mboxOutStatus r))]) ∧
    (∀ x : Word, x.getLsbD 31 = true →
      deliver (.mboxOutStatus r) x s = s.push [.op (.rd32Mbox1Status (.mboxOutStatus r))]) ∧
    (∀ x : Word, x.getLsbD 31 = false → deliver (.mboxOutStatus r) x s =
      s.push [.op (.wr32Mbox1Write (.lit (((s.params.mboxBuf ||| s.params.busAlias) &&& 0xFFFFFFF0#32) ||| 8#32))),
        .op (.rd32Mbox0Status (.mboxInStatus r))]) ∧
    (∀ x : Word, x.getLsbD 30 = true →
      deliver (.mboxInStatus r) x s = s.push [.op (.rd32Mbox0Status (.mboxInStatus r))]) ∧
    (∀ x : Word, x.getLsbD 30 = false →
      deliver (.mboxInStatus r) x s = s.push [.op (.rd32Mbox0Read (.mboxReply r))]) ∧
    (s.soft.surface = none → exec (.getDisplaySurface r) s = .fault .noSurface) ∧
    (∀ z, s.soft.surface = some z → exec (.getDisplaySurface r) s = .next (giveResult r (.surface z) s))

/-- R650: the word that the CPU takes from the mailbox. Another channel's word is skipped, and lost; a word of the channel
that does not echo the request fails the call, with no surface set; the call goes on to the buffer only for an echo of the
request, and fails, with no surface set, where the buffer's code is not the success code or its base is 0. With R323 and
R230, the exchange that succeeds: the CPU takes the echo of its request and finds the success code and a base that is not 0
in the buffer; run to its end by the CPU alone, the call sets and returns the surface that the buffer's words give, its
address masked to the CPU's view, and changes no other state. (R650 marks no step for `S.surface <- s`; that it happens in the
step of the last LDW is the model's choice: log 9.) -/
def Obligations.MailboxExchangeGivesTheSurface : Prop :=
  ∀ (x : Nat) (s : State) (ts : List Task) (w : Word) (ws : List Word),
    s.cpu.cont = .op (.rd32Mbox0Read (.mboxReply (.loc x))) :: ts → s.mbox.inq = w :: ws →
    let request := ((s.params.mboxBuf ||| s.params.busAlias) &&& 0xFFFFFFF0#32) ||| 8#32
    let word (k : Nat) : Word := s.wordAt (s.params.mboxBuf.toNat + 4 * k)
    let surface : DisplaySurface :=
      { width := word 5, height := word 6, pitch := word 24, buffer := word 19 &&& 0x3FFFFFFF#32, size := word 20 }
    (∃ t, cpuSteps 1 s = .next t ∧ t.mbox = { s.mbox with inq := ws } ∧ t.soft = s.soft ∧ t.mem = s.mem ∧
      t.cpu.cont =
        if w.extractLsb' 0 4 ≠ 8#4 then .op (.rd32Mbox0Status (.mboxInStatus (.loc x))) :: ts
        else if w ≠ request then bindScope x .mboxFailed ts
        else .op (.ldw (.lit (s.params.mboxBuf + 4#32)) (.mboxCode (.loc x))) :: ts) ∧
    (s.params.mboxBuf.toNat % 16 = 0 → s.params.mboxBuf.toNat + 112 ≤ s.params.periphBase.toNat → w = request →
      (word 1 ≠ 0x80000000#32 ∨ word 19 = 0#32) →
      ∃ t, cpuSteps (if word 1 ≠ 0x80000000#32 then 2 else 3) s = .next t ∧ t.soft = s.soft ∧
        t.cpu = { s.cpu with cont := bindScope x .mboxFailed ts } ∧ t.mbox = { s.mbox with inq := ws } ∧
        t.gpio = s.gpio ∧ t.timer = s.timer ∧ t.intc = s.intc ∧ t.uart = s.uart ∧ t.line = s.line ∧ t.mem = s.mem) ∧
    (s.params.mboxBuf.toNat % 16 = 0 → s.params.mboxBuf.toNat + 112 ≤ s.params.periphBase.toNat → w = request →
      word 1 = 0x80000000#32 → word 19 ≠ 0#32 →
      ∃ t, cpuSteps 7 s = .next t ∧ t.soft = { s.soft with surface := some surface } ∧
        t.cpu = { s.cpu with cont := bindScope x (.mboxOk surface) ts } ∧ t.mbox = { s.mbox with inq := ws } ∧
        t.gpio = s.gpio ∧ t.timer = s.timer ∧ t.intc = s.intc ∧ t.uart = s.uart ∧ t.line = s.line ∧ t.mem = s.mem)

/-- R640, R642, R712: the GPU's turns. It takes the head of the outbound FIFO when it is idle; it answers a taken word,
when the inbound FIFO has room, by writing RAM only in the 112 bytes that the word names and pushing one word. The turn lists
the words it writes: each reads back (the last one listed for its index), and a word that is not listed, or that reaches the
peripheral window and so is no RAM (log 16), is unchanged. The GPU pushes words of other channels; of the timer it touches only channels 0 and 2. Everything else is unchanged, and a turn that is
not enabled changes nothing (log 7). -/
def Obligations.GpuTurns : Prop :=
  ∀ (s : State) (words : List (Nat × Word)) (r : Word), s.mem.wf s.params = true →
    (∀ w ws, s.mbox.gpu = none → s.mbox.outq = w :: ws →
      agentEffect .gpuTake s = s.setMbox { s.mbox with gpu := some w, outq := ws }) ∧
    (s.mbox.gpu ≠ none ∨ s.mbox.outq = [] → agentEffect .gpuTake s = s) ∧
    (∀ w, s.mbox.gpu = some w → s.mbox.inq.length < s.params.mboxDepth →
      let buf := ((w &&& 0xFFFFFFF0#32) &&& 0x3FFFFFFF#32).toNat
      ∃ m : Memory, agentEffect (.gpuRespond words r) s =
          (s.setMem m).setMbox { s.mbox with inq := s.mbox.inq ++ [r], gpu := none } ∧ m.wf s.params = true ∧
        (∀ a, a < buf ∨ buf + 112 ≤ a → (s.setMem m).byteAt a = s.byteAt a) ∧
        (∀ pre post k v, words = pre ++ (k, v) :: post → (∀ p ∈ post, p.1 ≠ k) → k < 28 →
          buf + 4 * k + 4 ≤ s.params.periphBase.toNat → (s.setMem m).wordAt (buf + 4 * k) = v) ∧
        ∀ k, (∀ p ∈ words, p.1 ≠ k) ∨ s.params.periphBase.toNat < buf + 4 * k + 4 →
          (s.setMem m).wordAt (buf + 4 * k) = s.wordAt (buf + 4 * k)) ∧
    (s.mbox.gpu = none ∨ s.params.mboxDepth ≤ s.mbox.inq.length → agentEffect (.gpuRespond words r) s = s) ∧
    (r.extractLsb' 0 4 ≠ 8#4 → s.mbox.inq.length < s.params.mboxDepth →
      agentEffect (.gpuSpurious r) s = s.setMbox { s.mbox with inq := s.mbox.inq ++ [r] }) ∧
    (r.extractLsb' 0 4 = 8#4 ∨ s.params.mboxDepth ≤ s.mbox.inq.length → agentEffect (.gpuSpurious r) s = s) ∧
    ∀ two, ∃ (cmp : Vector Word 4) (m : BitVec 4),
      agentEffect (.gpuCompare two r) s = s.setTimer { s.timer with cmp := cmp } ∧
      agentEffect (.gpuClearMatch two) s = s.setTimer { s.timer with m := m } ∧
      (∀ k : Fin 4, cmp[k] = if k.val = (if two then 2 else 0) then r else s.timer.cmp[k]) ∧
      ∀ k < 4, m.getLsbD k = (decide (k ≠ if two then 2 else 0) && s.timer.m.getLsbD k)

/-- R620, R112: the request buffer of a machine that has stored nothing there holds the request image, word by word. -/
def Obligations.RequestImageStandsInTheBuffer : Prop :=
  ∀ s : State, s.params.wf = true → s.mem.atEntry s.params →
    (List.range 28).map (fun k => s.wordAt (s.params.mboxBuf.toNat + 4 * k)) =
      [112#32, 0#32, 0x00048003#32, 8#32, 0#32, s.params.fbWidth, s.params.fbHeight, 0x00048004#32, 8#32, 0#32,
        s.params.fbWidth, s.params.fbHeight, 0x00048005#32, 4#32, 0#32, s.params.fbDepth, 0x00040001#32, 8#32, 0#32, 16#32,
        0#32, 0x00040008#32, 4#32, 0#32, 0#32, 0#32, 0#32, 0#32]

/-- R230: `to_cpu(to_bus(c)) = c` for every `c < 0x40000000`, with the two formulas written out. -/
def Obligations.BusAddressTranslatesBack : Prop :=
  ∀ (p : Config.Params) (c b : Word), p.wf = true →
    toBus p c = c ||| p.busAlias ∧ toCpu b = b &&& 0x3FFFFFFF#32 ∧ (c.toNat < 0x40000000 → toCpu (toBus p c) = c)

/-! ### UART -/

/-- R904, R907, R909, R914, R918, R920, R922, R923: the status and control registers read the field of their rule, and the
reads change nothing else. UART_CR (R916) reads the bits that are not reserved: bits 6:3 are draws (R129, R407), where R916's
own pseudocode has them as held (log 14). -/
def Obligations.UartControlReads : Prop :=
  (∀ d, [Instr.rd32UartRsrecr d, .rd32UartIbrd d, .rd32UartFbrd d, .rd32UartLcrh d, .rd32UartCr d, .rd32UartIfls d,
      .rd32UartImsc d, .rd32UartRis d, .rd32UartMis d].map Instr.key =
    [0x00201004#32, 0x00201024#32, 0x00201028#32, 0x0020102C#32, 0x00201030#32, 0x00201034#32, 0x00201038#32,
      0x0020103C#32, 0x00201040#32]) ∧
  ∀ (d : Dest) (s : State),
    (∃ x, exec (.rd32UartRsrecr d) s = .next (deliver d x (s.retire 1)) ∧ x.extractLsb' 0 4 = s.uart.rsr) ∧
    (∃ x, exec (.rd32UartIbrd d) s = .next (deliver d x (s.retire 1)) ∧ x.extractLsb' 0 16 = s.uart.ibrd) ∧
    (∃ x, exec (.rd32UartFbrd d) s = .next (deliver d x (s.retire 1)) ∧ x.extractLsb' 0 6 = s.uart.fbrd) ∧
    (∃ x, exec (.rd32UartLcrh d) s = .next (deliver d x (s.retire 1)) ∧ x.extractLsb' 0 8 = s.uart.lcrh) ∧
    (∃ x, exec (.rd32UartCr d) s = .next (deliver d x (s.retire 1)) ∧
      ∀ j < 16, j < 3 ∨ 6 < j → x.getLsbD j = s.uart.cr.getLsbD j) ∧
    (∃ x, exec (.rd32UartIfls d) s = .next (deliver d x (s.retire 1)) ∧ x.extractLsb' 0 6 = s.uart.ifls) ∧
    (∃ x, exec (.rd32UartImsc d) s = .next (deliver d x (s.retire 1)) ∧ x.extractLsb' 0 11 = s.uart.imsc) ∧
    (∃ x, exec (.rd32UartRis d) s = .next (deliver d x (s.retire 1)) ∧ x.extractLsb' 0 11 = s.uart.ris) ∧
    (∃ x, exec (.rd32UartMis d) s = .next (deliver d x (s.retire 1)) ∧ x.extractLsb' 0 11 = s.uart.ris &&& s.uart.imsc)

/-- R906, R127 and R901: UART_FR shows the receive FIFO empty and full, the transmit FIFO full and empty, and BUSY while
it holds a byte; the read changes nothing else. The capacity of both FIFOs and the receive trigger level follow FEN and
RXIFLSEL. -/
def Obligations.FlagRegisterShowsTheFifos : Prop :=
  (∀ d, (Instr.rd32UartFr d).key = 0x00201018#32) ∧
  (∀ (d : Dest) (s : State),
    let cap := if s.uart.lcrh.getLsbD 4 then 16 else 1
    ∃ x, exec (.rd32UartFr d) s = .next (deliver d x (s.retire 1)) ∧
      (s.uart.txq ≠ [] → x.getLsbD 3 = true) ∧ x.getLsbD 4 = decide (s.uart.rxq = []) ∧
      x.getLsbD 5 = decide (s.uart.txq.length = cap) ∧ x.getLsbD 6 = decide (s.uart.rxq.length = cap) ∧
      x.getLsbD 7 = decide (s.uart.txq = [])) ∧
  ∀ u : Uart,
    (u.lcrh.getLsbD 4 = false → u.cap = 1 ∧ u.rxTrig = 1) ∧
    (u.lcrh.getLsbD 4 = true → u.cap = 16 ∧
      ∀ kl ∈ [(0#3, 2), (1#3, 4), (2#3, 8), (3#3, 12), (4#3, 14)], u.ifls.extractLsb' 3 3 = kl.1 → u.rxTrig = kl.2)

/-- R902, R132 and R903: a read of UART_DR pops the oldest entry, gives its data and error bits, sets the receive status
and clears RX below the trigger level and RT when the FIFO is empty; an empty FIFO gives some value and pops nothing. A
write pushes a byte, and faults when the FIFO is full. Nothing else changes. -/
def Obligations.DataRegisterPopsAndPushes : Prop :=
  (∀ d v, [Instr.rd32UartDr d, .wr32UartDr v].map Instr.key = [0x00201000#32, 0x01201000#32]) ∧
  ∀ (d : Dest) (v : Expr) (s : State),
    (s.uart.rxq = [] → ∃ x, exec (.rd32UartDr d) s = .next (deliver d x (s.retire 1))) ∧
    (∀ e rest, s.uart.rxq = e :: rest → ∃ (x : Word) (status : BitVec 4) (ris : BitVec 11),
      exec (.rd32UartDr d) s =
        .next (deliver d x ((s.setUart { s.uart with rxq := rest, rsr := status, ris := ris }).retire 1)) ∧
      x.extractLsb' 0 8 = e.data ∧ x.getLsbD 8 = e.fe ∧ x.getLsbD 9 = e.pe ∧ x.getLsbD 10 = e.be ∧ x.getLsbD 11 = e.oe ∧
      status.getLsbD 0 = e.fe ∧ status.getLsbD 1 = e.pe ∧ status.getLsbD 2 = e.be ∧ status.getLsbD 3 = e.oe ∧
      ∀ j < 11, ris.getLsbD j =
        (s.uart.ris.getLsbD j && !decide (j = 4 ∧ rest.length < s.uart.rxTrig) && !decide (j = 6 ∧ rest = []))) ∧
    (s.uart.txq.length = s.uart.cap → exec (.wr32UartDr v) s = .fault .txOverflow) ∧
    (s.uart.txq.length ≠ s.uart.cap → exec (.wr32UartDr v) s =
      .next ((s.setUart { s.uart with txq := s.uart.txq ++ [(s.eval v).extractLsb' 0 8] }).retire 1))

/-- R908, R910, R912, R913: IBRD and FBRD are staged, LCRH puts all three in effect; a write while the UART is enabled
makes the line configuration bad and one of LCRH while it is disabled makes it good; a change of FEN empties both FIFOs
and clears RX and RT. Nothing else changes. -/
def Obligations.LineControlWrites : Prop :=
  (∀ v, [Instr.wr32UartIbrd v, .wr32UartFbrd v, .wr32UartLcrh v].map Instr.key =
    [0x01201024#32, 0x01201028#32, 0x0120102C#32]) ∧
  ∀ (v : Expr) (s : State),
    let on := s.uart.cr.getLsbD 0
    exec (.wr32UartIbrd v) s = .next ((s.setUart
      { s.uart with ibrd := (s.eval v).extractLsb' 0 16, lcrOk := s.uart.lcrOk && !on }).retire 1) ∧
    exec (.wr32UartFbrd v) s = .next ((s.setUart
      { s.uart with fbrd := (s.eval v).extractLsb' 0 6, lcrOk := s.uart.lcrOk && !on }).retire 1) ∧
    ∃ u : Uart, exec (.wr32UartLcrh v) s = .next ((s.setUart u).retire 1) ∧
      u.lcrh = (s.eval v).extractLsb' 0 8 ∧ u.lcrOk = !on ∧ u.lcrEff = ⟨s.uart.ibrd, s.uart.fbrd, (s.eval v).extractLsb' 0 8⟩ ∧
      ((s.eval v).getLsbD 4 = s.uart.lcrh.getLsbD 4 → u.txq = s.uart.txq ∧ u.rxq = s.uart.rxq ∧ u.ris = s.uart.ris) ∧
      ((s.eval v).getLsbD 4 ≠ s.uart.lcrh.getLsbD 4 → u.txq = [] ∧ u.rxq = [] ∧
        ∀ j < 11, u.ris.getLsbD j = (s.uart.ris.getLsbD j && decide (j ≠ 4) && decide (j ≠ 6))) ∧
      u.ibrd = s.uart.ibrd ∧ u.fbrd = s.uart.fbrd ∧ u.cr = s.uart.cr ∧ u.ifls = s.uart.ifls ∧ u.imsc = s.uart.imsc ∧
      u.rsr = s.uart.rsr

/-- R905, R911, R919, R921: the control registers take their bits, UART_IFLS refusing a reserved level; a write of
UART_RSRECR clears the receive status, a 1 written to UART_ICR clears the interrupt bit. Nothing else changes. UART_CR (R917)
refuses IrDA and hardware flow control and takes the bits that are not reserved: bits 6:3 are ignored (R129, R407), where
R917's own pseudocode stores them (log 14). -/
def Obligations.UartControlWrites : Prop :=
  (∀ v, [Instr.wr32UartRsrecr v, .wr32UartIcr v, .wr32UartCr v, .wr32UartIfls v, .wr32UartImsc v].map Instr.key =
    [0x01201004#32, 0x01201044#32, 0x01201030#32, 0x01201034#32, 0x01201038#32]) ∧
  ∀ (v : Expr) (s : State),
    let x := s.eval v
    let unmodelled := x.getLsbD 1 || x.getLsbD 2 || x.getLsbD 14 || x.getLsbD 15
    let reserved := 4 < (x.extractLsb' 0 3).toNat ∨ 4 < (x.extractLsb' 3 3).toNat
    (unmodelled = true → exec (.wr32UartCr v) s = .refused .unmodelledUartMode) ∧
    (unmodelled = false → ∃ cr : BitVec 16,
      exec (.wr32UartCr v) s = .next ((s.setUart { s.uart with cr := cr }).retire 1) ∧
      ∀ j < 16, j < 3 ∨ 6 < j → cr.getLsbD j = x.getLsbD j) ∧
    (reserved → exec (.wr32UartIfls v) s = .refused .reservedTriggerLevel) ∧
    (¬ reserved → exec (.wr32UartIfls v) s = .next ((s.setUart { s.uart with ifls := x.extractLsb' 0 6 }).retire 1)) ∧
    exec (.wr32UartImsc v) s = .next ((s.setUart { s.uart with imsc := x.extractLsb' 0 11 }).retire 1) ∧
    exec (.wr32UartRsrecr v) s = .next ((s.setUart { s.uart with rsr := 0#4 }).retire 1) ∧
    ∃ ris : BitVec 11, exec (.wr32UartIcr v) s = .next ((s.setUart { s.uart with ris := ris }).retire 1) ∧
      ∀ j < 11, ris.getLsbD j = (s.uart.ris.getLsbD j && !x.getLsbD j)

/-- R960: the TX line step takes the oldest byte. On a good line the peer receives exactly it; on a bad one it receives
any bytes and the line is marked; in loopback the peer receives nothing, and the byte is received if the receiver is on: it
raises RX at the trigger level, and in a full FIFO it is lost, OE is raised and the newest entry is marked (`RxPush` of R961;
that U.rsr takes OE too is D30, log 13). When the line is good: R915, stated in `UartInitMakesTheLineGood`. It has no effect unless a byte waits and the UART and its transmitter are enabled. -/
def Obligations.TransmitStepSendsTheOldestByte : Prop :=
  ∀ (s : State) (garbled : List Byte),
    (s.uart.txq = [] ∨ s.uart.cr.getLsbD 0 = false ∨ s.uart.cr.getLsbD 8 = false → agentEffect (.uartTx garbled) s = s) ∧
    (∀ b rest, s.uart.txq = b :: rest → s.uart.cr.getLsbD 0 = true → s.uart.cr.getLsbD 8 = true →
      (s.uart.cr.getLsbD 7 = false → lineOkTx s = true → agentEffect (.uartTx garbled) s =
        (s.setUart { s.uart with txq := rest }).setLine { s.line with tx := s.line.tx ++ [b] }) ∧
      (s.uart.cr.getLsbD 7 = false → lineOkTx s = false → agentEffect (.uartTx garbled) s =
        (s.setUart { s.uart with txq := rest }).setLine { tx := s.line.tx ++ garbled, garbled := true }) ∧
      (s.uart.cr.getLsbD 7 = true → s.uart.cr.getLsbD 9 = false →
        agentEffect (.uartTx garbled) s = s.setUart { s.uart with txq := rest }) ∧
      (s.uart.cr.getLsbD 7 = true → s.uart.cr.getLsbD 9 = true → ∃ (q : List RxEntry) (rsr : BitVec 4) (ris : BitVec 11),
        agentEffect (.uartTx garbled) s = s.setUart { s.uart with txq := rest, rxq := q, rsr := rsr, ris := ris } ∧
        (s.uart.rxq.length ≠ s.uart.cap → q = s.uart.rxq ++ [⟨b, false, false, false, false⟩] ∧ rsr = s.uart.rsr ∧
          ∀ j < 11, ris.getLsbD j =
            (s.uart.ris.getLsbD j || (decide (j = 4) && decide (s.uart.rxTrig ≤ s.uart.rxq.length + 1)))) ∧
        (∀ init last, s.uart.rxq = init ++ [last] → s.uart.rxq.length = s.uart.cap →
          q = init ++ [{ last with oe := true }] ∧ (∀ j < 4, rsr.getLsbD j = (s.uart.rsr.getLsbD j || decide (j = 3))) ∧
          ∀ j < 11, ris.getLsbD j = (s.uart.ris.getLsbD j || decide (j = 10)))))

/-- R961 to R964: the RX line step. With room, the received entry is appended and FE, PE, BE and, at the trigger level, RX
are raised; with none, the byte is lost, OE is raised in U.ris and U.rsr (the latter is D30: log 13) and the newest entry is
marked; a good line (R915, stated in `UartInitMakesTheLineGood`) delivers the peer's byte without errors, a bad one any byte and is
marked. The timeout step raises RT
alone and only for a waiting byte; the CTS and TX steps give their own bit any value (for CTS this is D57 and U31, where R964
has it set only: log 15). -/
def Obligations.ReceiveStepFillsTheFifo : Prop :=
  ∀ (s : State) (good bad : Byte) (fe pe be v c : Bool),
    let on := s.uart.cr.getLsbD 0 && s.uart.cr.getLsbD 9
    let e : RxEntry := if lineOkRx s then ⟨good, false, false, false, false⟩ else ⟨bad, fe, pe, be, false⟩
    let t := agentEffect (.uartRx good bad fe pe be) s
    ((on && !s.uart.cr.getLsbD 7) = false → t = s) ∧
    ((on && !s.uart.cr.getLsbD 7) = true → ∃ (q : List RxEntry) (rsr : BitVec 4) (ris : BitVec 11),
      t = (s.setUart { s.uart with rxq := q, rsr := rsr, ris := ris }).setLine
        { s.line with garbled := s.line.garbled || !lineOkRx s } ∧
      (s.uart.rxq.length ≠ s.uart.cap → q = s.uart.rxq ++ [e] ∧ rsr = s.uart.rsr ∧ ∀ j < 11, ris.getLsbD j =
        (s.uart.ris.getLsbD j || (decide (j = 4) && decide (s.uart.rxTrig ≤ s.uart.rxq.length + 1)) ||
          (decide (j = 7) && e.fe) || (decide (j = 8) && e.pe) || (decide (j = 9) && e.be))) ∧
      (∀ init last, s.uart.rxq = init ++ [last] → s.uart.rxq.length = s.uart.cap → q = init ++ [{ last with oe := true }] ∧
        (∀ j < 4, rsr.getLsbD j = (s.uart.rsr.getLsbD j || decide (j = 3))) ∧
        ∀ j < 11, ris.getLsbD j = (s.uart.ris.getLsbD j || decide (j = 10)))) ∧
    (∃ r1 r2 r3, agentEffect .uartTimeout s = s.setUart { s.uart with ris := r1 } ∧
      agentEffect (.uartCts c) s = s.setUart { s.uart with ris := r2 } ∧
      agentEffect (.uartTxBit v) s = s.setUart { s.uart with ris := r3 } ∧
      ∀ j < 11, r1.getLsbD j = (s.uart.ris.getLsbD j || (decide (j = 6) && on && decide (s.uart.rxq ≠ []))) ∧
        r2.getLsbD j = (if j = 1 then c else s.uart.ris.getLsbD j) ∧ r3.getLsbD j = if j = 5 then v else s.uart.ris.getLsbD j)

/-- R926, R927: `div64(b)` is `4 * clk / b` rounded to the nearest integer, halves up; the values of the rule's list; at
48 MHz the integer part is 0 exactly from 3 023 623 on. -/
def Obligations.DivisorIsRoundedToNearest : Prop :=
  (∀ clk b : Nat, 0 < b → 2 * b * div64 clk b ≤ 8 * clk + b ∧ 8 * clk + b < 2 * b * (div64 clk b + 1)) ∧
  div64 48000000 115200 = 64 * 26 + 3 ∧ div64 3000000 115200 = 64 * 1 + 40 ∧
  ∀ b : Nat, 0 < b → (div64 48000000 b / 64 = 0 ↔ 3023623 ≤ b)

/-- R915, with R925 and R927: each line condition holds exactly when the UART and its direction are enabled, the line control
is sound (R913) and asks for 8N1 without a break, the divisor in effect is valid, its exact baud rate is within the tolerance of
115200, and the direction's pin has function 0b100. R940: the operand left out is 115200; `uart_init(0)` is refused; another rate is replaced by the rule's sequence, with the
divisor of R926; its last step sets `S.uart_initialized`. `uart_init(115200)`, written so or with the operand left out, run to
its end by the CPU alone, leaves both line conditions true, at either UART clock and the reference tolerance, with the divisor in effect, the receive interrupts unmasked and no
interrupt bit set. -/
def Obligations.UartInitMakesTheLineGood : Prop :=
  (∀ s : State,
    let eff := s.uart.lcrEff
    let n : Nat := 64 * eff.ibrd.toNat + eff.fbrd.toNat
    let frame : Prop := s.uart.cr.getLsbD 0 = true ∧ s.uart.lcrOk = true ∧ eff.lcrh.extractLsb' 5 2 = 0b11#2 ∧
      eff.lcrh.getLsbD 1 = false ∧ eff.lcrh.getLsbD 3 = false ∧ eff.lcrh.getLsbD 0 = false ∧ eff.ibrd ≠ 0#16 ∧
      ¬ (eff.ibrd = 0xFFFF#16 ∧ eff.fbrd ≠ 0#6) ∧
      1000 * |4 * (s.params.uartClkHz : ℚ) / n - 115200| ≤ s.params.baudTolPermille * 115200
    (lineOkTx s = true ↔ frame ∧ s.uart.cr.getLsbD 8 = true ∧ s.gpio.fsel[14] = 0b100#3) ∧
      (lineOkRx s = true ↔ frame ∧ s.uart.cr.getLsbD 9 = true ∧ s.gpio.fsel[15] = 0b100#3)) ∧
  (∀ o, (Instr.uartInit o).key = 0x40005000#32) ∧
  (∀ (o : Option Expr) (s : State),
    let baud : Word := (o.map s.eval).getD 115200#32
    let d := (8 * s.params.uartClkHz + baud.toNat) / (2 * baud.toNat)
    (baud = 0#32 → exec (.uartInit o) s = .refused .baudZero) ∧
    (baud ≠ 0#32 → exec (.uartInit o) s = .next (s.push
      [.op (.wr32UartCr (.lit 0#32)), .op (.gpioSetFunction 14 4), .op (.gpioSetFunction 15 4), .op (.gpioSetPull 14 0),
        .op (.gpioSetPull 15 0), .op (.wr32UartIcr (.lit 0x7FF#32)), .op (.wr32UartIbrd (.lit (BitVec.ofNat 32 (d / 64)))),
        .op (.wr32UartFbrd (.lit (BitVec.ofNat 32 (d % 64)))), .op (.wr32UartLcrh (.lit 0x70#32)),
        .op (.wr32UartImsc (.lit 0x050#32)), .op (.wr32UartCr (.lit 0x301#32)), .uartInitStep])) ∧
    ∀ ts, runTask .uartInitStep ts s =
      .next (((s.setCont ts).setSoft { s.soft with uartInitialized := true }).retire 1)) ∧
  ∀ (o : Option Expr) (s : State) (ts : List Task), o = none ∨ o = some (.lit 115200#32) →
    (s.params.uartClkHz = 48000000 ∨ s.params.uartClkHz = 3000000) → s.params.baudTolPermille = 25 →
    s.cpu.cont = .op (.uartInit o) :: ts →
    let d := (8 * s.params.uartClkHz + 115200) / (2 * 115200)
    ∃ t, cpuSteps 29 s = .next t ∧ t.cpu = { s.cpu with cont := ts } ∧ lineOkTx t = true ∧ lineOkRx t = true ∧
      t.uart.lcrEff = ⟨BitVec.ofNat 16 (d / 64), BitVec.ofNat 6 (d % 64), 0x70#8⟩ ∧ t.uart.imsc = 0x050#11 ∧
      t.uart.cr = 0x301#16 ∧ t.uart.ris = 0#11 ∧ t.soft = { s.soft with uartInitialized := true } ∧ t.timer = s.timer ∧
      t.intc = s.intc ∧ t.mbox = s.mbox ∧ t.line = s.line ∧ ∀ a, t.byteAt a = s.byteAt a

/-- R941 to R945, R947: what the receive and transmit operations are replaced by. `uart_puts` expands a line feed;
`uart_puthex` sends eight upper-case digits, the highest first; the value of UART_FR decides whether a wait goes on. The rules
give `uart_putc` and `echo` a u8; that the operand here is a word, of which the low eight bits are sent, is the model's choice
(DESIGN CHOICE, log 20). -/
def Obligations.UartOperationsExpand : Prop :=
  (∀ c bs r, [Instr.uartPutc c, .uartPuts bs, .uartGetc r, .uartGetcNb r, .echo c, .uartPuthex c].map Instr.key =
    [0x40005100#32, 0x40005200#32, 0x40005300#32, 0x40005400#32, 0x40005500#32, 0x40005700#32]) ∧
  ∀ (c : Expr) (r : Ret) (s : State),
    let send (b : Byte) : Task := .op (.uartPutc (.lit (b.setWidth 32)))
    exec (.uartPutc c) s = .next (s.push [.op (.rd32UartFr (.putcReady ((s.eval c).extractLsb' 0 8)))]) ∧
    (∀ bs : List Byte, exec (.uartPuts bs) s =
      .next (s.push (bs.flatMap fun b => if b = 0x0A#8 then [send 0x0D#8, send 0x0A#8] else [send b]))) ∧
    exec (.uartGetc r) s = .next (s.push [.op (.rd32UartFr (.getcReady r))]) ∧
    exec (.uartGetcNb r) s = .next (s.push [.op (.rd32UartFr (.getcNbFlag r))]) ∧
    exec (.echo c) s = .next (s.push [.op (.uartPutc (.lit (s.eval c)))]) ∧
    exec (.uartPuthex c) s = .next (s.push ([7, 6, 5, 4, 3, 2, 1, 0].map fun k =>
      let n := ((s.eval c) >>> (4 * k)).toNat % 16
      send (BitVec.ofNat 8 (if n < 10 then 0x30 + n else 0x41 + n - 10)))) ∧
    (∀ (x : Word) (b : Byte), deliver (.putcReady b) x s =
      if x.getLsbD 5 then s.push [.op (.rd32UartFr (.putcReady b))] else s.push [.op (.wr32UartDr (.lit (b.setWidth 32)))]) ∧
    (∀ x : Word, deliver (.getcReady r) x s =
      if x.getLsbD 4 then s.push [.op (.rd32UartFr (.getcReady r))] else s.push [.op (.rd32UartDr (.getcByte r))]) ∧
    ∀ x : Word, deliver (.getcByte r) x s = giveResult r (.byte (x.extractLsb' 0 8)) s

/-- R946: `uart_putdec(v)` sends the decimal digits of `v`, most significant first: they are digits, they have the value
`v`, and the first is 0 only for `v = 0`, which has one digit. -/
def Obligations.PutdecSendsTheDecimalDigits : Prop :=
  (∀ e, (Instr.uartPutdec e).key = 0x40005600#32) ∧
  ∀ (e : Expr) (s : State), ∃ ds : List Nat,
    exec (.uartPutdec e) s = .next (s.push (ds.map fun d => .op (.uartPutc (.lit (BitVec.ofNat 32 (0x30 + d)))))) ∧
    (∀ d ∈ ds, d < 10) ∧ ds.foldl (fun n d => 10 * n + d) 0 = (s.eval e).toNat ∧
    (∃ d rest, ds = d :: rest ∧ (d = 0 → rest = [] ∧ s.eval e = 0#32))

/-- R944: `uart_getc_nb()`, run to its end by the CPU alone: `none` after one read of UART_FR when nothing has been
received, else the oldest byte, which it takes, after one read of UART_FR and one of UART_DR; it never waits. -/
def Obligations.NonBlockingReceiveNeverWaits : Prop :=
  (∀ r, (Instr.uartGetcNb r).key = 0x40005400#32) ∧
  ∀ (x : Nat) (s : State) (ts : List Task), s.cpu.cont = .op (.uartGetcNb (.loc x)) :: ts →
    (s.uart.rxq = [] → ∃ t, cpuSteps 2 s = .next t ∧ t.cpu.cont = bindScope x (.optByte none) ts ∧ t.uart = s.uart) ∧
    (∀ e rest, s.uart.rxq = e :: rest → ∃ t, cpuSteps 3 s = .next t ∧
      t.cpu.cont = bindScope x (.optByte (some e.data)) ts ∧ t.uart.rxq = rest ∧ t.uart.txq = s.uart.txq)

/-- R871, R945: with the default handler, room in the transmit FIFO and no byte arriving meanwhile, `uart_drain()` runs to
its end: every received byte has been echoed, in order, the receive FIFO is empty, and the rest of the program is still to
run. -/
def Obligations.DrainEchoesEveryByteInOrder : Prop :=
  ∀ (s : State) (ts : List Task), s.cpu.cont = .op .uartDrain :: ts → s.soft.inputHandler = .echo →
    s.uart.txq.length + s.uart.rxq.length ≤ s.uart.cap →
    ∃ (n : Nat) (t : State), cpuSteps n s = .next t ∧ t.cpu.cont = ts ∧ t.uart.rxq = [] ∧
      t.uart.txq = s.uart.txq ++ s.uart.rxq.map RxEntry.data ∧ t.line = s.line ∧ t.timer = s.timer ∧ t.gpio = s.gpio ∧
      t.mbox = s.mbox ∧ t.intc = s.intc ∧ t.mem = s.mem
end

