-- ==== Sys2Proof/Laws/Codec.lean ====
section
/-! SUPPORT. Every operand codec reads what it writes, and leaves the words after it (log 5). -/

namespace Sys2Proof

/-! ### Naturals -/

theorem decodeNat_natDigits (fuel n : Nat) (rest : List Word) (h : n < 2 ^ (31 * (fuel + 1))) :
    decodeNat (natDigits fuel n ++ rest) = some (n, rest) := by
  induction fuel generalizing n with
  | zero =>
    have h' : n < 2147483648 := by simpa using h
    have hv : (BitVec.ofNat 32 n).toNat = n := by rw [BitVec.toNat_ofNat]; omega
    simp [natDigits, decodeNat, hv, h']
  | succ fuel ih =>
    by_cases hn : n < 2147483648
    · have hv : (BitVec.ofNat 32 n).toNat = n := by rw [BitVec.toNat_ofNat]; omega
      simp [natDigits, decodeNat, hv, hn]
    · have hd : n / 2147483648 < 2 ^ (31 * (fuel + 1)) := by
        apply Nat.div_lt_of_lt_mul
        calc n < 2 ^ (31 * (fuel + 1 + 1)) := h
          _ = 2147483648 * 2 ^ (31 * (fuel + 1)) := by
            rw [show 31 * (fuel + 1 + 1) = 31 + 31 * (fuel + 1) by ring, pow_add]; norm_num
      have hv : (BitVec.ofNat 32 (2147483648 + n % 2147483648)).toNat = 2147483648 + n % 2147483648 := by
        rw [BitVec.toNat_ofNat]; omega
      simp only [natDigits, if_neg hn, List.cons_append, decodeNat, hv, ih _ hd]
      rw [if_neg (by omega), Option.some.injEq, Prod.mk.injEq]
      exact ⟨by omega, rfl⟩

/-- A natural number reads back. -/
@[simp] theorem decodeNat_encodeNat (n : Nat) (rest : List Word) : decodeNat (encodeNat n ++ rest) = some (n, rest) := by
  apply decodeNat_natDigits
  calc n < 2 ^ (n.log2 + 1) := Nat.lt_log2_self
    _ ≤ 2 ^ (31 * (n.log2 / 31 + 1 + 1)) := Nat.pow_le_pow_right (by omega) (by omega)

theorem encodeNat_ne_nil (n : Nat) : encodeNat n ≠ [] := by
  unfold encodeNat natDigits
  split <;> simp

theorem decodeNatUpTo_encodeNat {m n : Nat} (h : n ≤ m) (rest : List Word) :
    decodeNatUpTo m (encodeNat n ++ rest) = some (n, rest) := by
  simp [decodeNatUpTo, h]

/-! ### Expressions -/

theorem binOpOfTag_tag (op : BinOp) : binOpOfTag op.tag = some op := by cases op <;> decide

theorem BinOp.tag_ne (op : BinOp) :
    op.tag ≠ 0#32 ∧ op.tag ≠ 1#32 ∧ op.tag ≠ 2#32 ∧ op.tag ≠ 13#32 ∧ op.tag ≠ 14#32 := by
  cases op <;> decide

theorem decodeExprFuel_encodeExpr (e : Expr) (h : e.wf = true) (fuel : Nat) (hf : (encodeExpr e).length ≤ fuel)
    (rest : List Word) : decodeExprFuel fuel (encodeExpr e ++ rest) = some (e, rest) := by
  induction e generalizing fuel rest with
  | lit v =>
    obtain ⟨k, rfl⟩ : ∃ k, fuel = k + 1 := ⟨fuel - 1, by simp [encodeExpr] at hf; omega⟩
    simp [encodeExpr, decodeExprFuel]
  | loc x =>
    obtain ⟨k, rfl⟩ : ∃ k, fuel = k + 1 := ⟨fuel - 1, by simp [encodeExpr] at hf; omega⟩
    simp [encodeExpr, decodeExprFuel]
  | not a ih =>
    simp only [encodeExpr, List.length_cons] at hf
    obtain ⟨k, rfl⟩ : ∃ k, fuel = k + 1 := ⟨fuel - 1, by omega⟩
    simp [encodeExpr, decodeExprFuel, ih h k (by omega)]
  | bin op a b iha ihb =>
    simp only [encodeExpr, List.length_cons, List.length_append] at hf
    simp only [Expr.wf, Bool.and_eq_true] at h
    obtain ⟨k, rfl⟩ : ∃ k, fuel = k + 1 := ⟨fuel - 1, by omega⟩
    obtain ⟨h0, h1, h2, h3, h4⟩ := op.tag_ne
    simp only [encodeExpr, List.cons_append, List.append_assoc, decodeExprFuel, if_neg h0, if_neg h1, if_neg h2,
      if_neg h3, if_neg h4, binOpOfTag_tag, iha h.1 k (by omega), ihb h.2 k (by omega)]
  | ite c a b ihc iha ihb =>
    simp only [encodeExpr, List.length_cons, List.length_append] at hf
    simp only [Expr.wf, Bool.and_eq_true] at h
    obtain ⟨k, rfl⟩ : ∃ k, fuel = k + 1 := ⟨fuel - 1, by omega⟩
    simp [encodeExpr, decodeExprFuel, ihc h.1.1 k (by omega), iha h.1.2 k (by omega), ihb h.2 k (by omega)]
  | slice hi lo a ih =>
    simp only [encodeExpr, List.length_cons, List.length_append] at hf
    simp only [Expr.wf, Bool.and_eq_true, decide_eq_true_eq] at h
    obtain ⟨k, rfl⟩ : ∃ k, fuel = k + 1 := ⟨fuel - 1, by omega⟩
    simp [encodeExpr, decodeExprFuel, ih h.2 k (by omega), h.1.1, h.1.2]

/-- A well-formed expression reads back. -/
theorem decodeExpr_encodeExpr {e : Expr} (h : e.wf = true) (rest : List Word) :
    decodeExpr (encodeExpr e ++ rest) = some (e, rest) :=
  decodeExprFuel_encodeExpr e h _ (by simp) rest

/-- No expression starts with tag 15. -/
theorem encodeExpr_head (e : Expr) : ∃ t ws, encodeExpr e = t :: ws ∧ t ≠ 15#32 := by
  cases e with
  | bin op a b => exact ⟨_, _, rfl, by cases op <;> decide⟩
  | _ => exact ⟨_, _, rfl, by decide⟩

/-- The operand of `uart_init`, given or left out, reads back. -/
theorem decodeBaud_encodeBaud {o : Option Expr} (h : o.all Expr.wf = true) (rest : List Word) :
    decodeBaud (encodeBaud o ++ rest) = some (o, rest) := by
  cases o with
  | none => rfl
  | some e =>
    obtain ⟨t, ws, he, ht⟩ := encodeExpr_head e
    have hd := decodeExpr_encodeExpr (e := e) h rest
    rw [he, List.cons_append] at hd
    simp only [encodeBaud, he, List.cons_append, decodeBaud, if_neg ht, hd]

/-! ### Destinations -/

theorem decodeRet_encodeRet {r : Ret} (h : r.wf = true) (rest : List Word) :
    decodeRet (encodeRet r ++ rest) = some (r, rest) := by
  cases r with
  | loc x => simp [decodeRet, encodeRet]
  | drain => cases h

theorem decodeDest_encodeDest {d : Dest} (h : d.wf = true) (rest : List Word) :
    decodeDest (encodeDest d ++ rest) = some (d, rest) := by
  cases d with
  | ret r => simp [decodeDest, encodeDest, decodeRet_encodeRet (show r.wf = true from h)]
  | _ => cases h

/-! ### Lists of words and bytes, handlers -/

@[simp] theorem takeWords_append (ws rest : List Word) : takeWords ws.length (ws ++ rest) = some (ws, rest) := by
  induction ws with
  | nil => rfl
  | cons w ws ih => simp [takeWords, ih]

theorem takeBytes_map (bs : List Byte) (rest : List Word) :
    takeBytes bs.length (bs.map (fun b => b.setWidth 32) ++ rest) = some (bs, rest) := by
  induction bs with
  | nil => rfl
  | cons b bs ih =>
    have hb := b.isLt
    have h1 : (b.setWidth 32).toNat < 256 := by rw [BitVec.toNat_setWidth]; omega
    have h2 : (b.setWidth 32).setWidth 8 = b := by
      apply BitVec.eq_of_toNat_eq; rw [BitVec.toNat_setWidth, BitVec.toNat_setWidth]; omega
    simp only [List.length_cons, List.map_cons, List.cons_append, takeBytes, if_pos h1, ih, Option.map_some, h2]

theorem decodeBytes_encodeBytes (bs : List Byte) (rest : List Word) :
    decodeBytes (encodeBytes bs ++ rest) = some (bs, rest) := by
  simp only [decodeBytes, encodeBytes, List.append_assoc, decodeNat_encodeNat, takeBytes_map]

theorem takeRows_flatMap (rows : List (List Word)) (rest : List Word) :
    takeRows rows.length (rows.flatMap encodeRow ++ rest) = some (rows, rest) := by
  induction rows with
  | nil => rfl
  | cons r rows ih =>
    simp [List.flatMap_cons, encodeRow, takeRows, ih]

theorem decodeHandler_encodeHandler {h : Handler} (hw : h.wf = true) (rest : List Word) :
    decodeHandler (encodeHandler h ++ rest) = some (h, rest) := by
  cases h with
  | echo => simp [decodeHandler, encodeHandler]
  | table rows =>
    have hr : rows.length ≤ 256 := by simpa [Handler.wf] using hw
    simp [decodeHandler, encodeHandler, takeRows_flatMap, hr]

/-! ### What decode does with a key (30 R302) -/

/-- A read key. -/
theorem decode_read {k : Word} {off : Nat} (hk : k.toNat = off) (ho : off < 0x1000000) {f : Dest → Instr}
    (hf : readAt off = .ok f) (ws : List Word) : decode (k :: ws) = finish off (parse1 decodeDest f ws) := by
  simp only [decode, hk, if_pos ho, hf]

/-- A write key. -/
theorem decode_write {k : Word} {off : Nat} (hk : k.toNat = 0x1000000 + off) (ho : off < 0x1000000) {f : Expr → Instr}
    (hf : writeAt off = .ok f) (ws : List Word) :
    decode (k :: ws) = finish (0x1000000 + off) (parse1 decodeExpr f ws) := by
  simp only [decode, hk, Nat.add_sub_cancel_left, hf]
  rw [if_neg (by omega), if_pos (by omega)]

/-- The key of a CPU primitive or of a driver operation. -/
theorem decode_op {k : Word} {n : Nat} (hk : k.toNat / 256 = n) (hn : 0x20000 ≤ n)
    {p : List Word → Option (Instr × List Word)} (hp : (cpuOps ++ driverOps).lookup n = some p) (ws : List Word) :
    decode (k :: ws) = finish k.toNat (p ws) := by
  simp only [decode, hk, hp]
  rw [if_neg (by omega), if_neg (by omega)]

end Sys2Proof
end

