-- ==== Sys2Proof/Laws/State.lean ====
section
/-! SUPPORT. One lemma per field per update of the state, so that no proof unfolds a record update. -/

namespace Sys2Proof.Machine

open Sys2Proof

/-! ### setCpu -/

@[simp] theorem State.setCpu_params (s : State) (x : Cpu) : (s.setCpu x).params = s.params := rfl
@[simp] theorem State.setCpu_cpu (s : State) (x : Cpu) : (s.setCpu x).cpu = x := rfl
@[simp] theorem State.setCpu_soft (s : State) (x : Cpu) : (s.setCpu x).soft = s.soft := rfl
@[simp] theorem State.setCpu_gpio (s : State) (x : Cpu) : (s.setCpu x).gpio = s.gpio := rfl
@[simp] theorem State.setCpu_timer (s : State) (x : Cpu) : (s.setCpu x).timer = s.timer := rfl
@[simp] theorem State.setCpu_intc (s : State) (x : Cpu) : (s.setCpu x).intc = s.intc := rfl
@[simp] theorem State.setCpu_mbox (s : State) (x : Cpu) : (s.setCpu x).mbox = s.mbox := rfl
@[simp] theorem State.setCpu_uart (s : State) (x : Cpu) : (s.setCpu x).uart = s.uart := rfl
@[simp] theorem State.setCpu_line (s : State) (x : Cpu) : (s.setCpu x).line = s.line := rfl
@[simp] theorem State.setCpu_mem (s : State) (x : Cpu) : (s.setCpu x).mem = s.mem := rfl
@[simp] theorem State.setCpu_cyc (s : State) (x : Cpu) : (s.setCpu x).cyc = s.cyc := rfl
@[simp] theorem State.setCpu_draws (s : State) (x : Cpu) : (s.setCpu x).draws = s.draws := rfl
@[simp] theorem State.setCpu_sched (s : State) (x : Cpu) : (s.setCpu x).sched = s.sched := rfl
@[simp] theorem State.setCpu_setCpu (s : State) (x y : Cpu) : (s.setCpu x).setCpu y = s.setCpu y := rfl

/-! ### setSoft -/

@[simp] theorem State.setSoft_params (s : State) (x : Soft) : (s.setSoft x).params = s.params := rfl
@[simp] theorem State.setSoft_cpu (s : State) (x : Soft) : (s.setSoft x).cpu = s.cpu := rfl
@[simp] theorem State.setSoft_soft (s : State) (x : Soft) : (s.setSoft x).soft = x := rfl
@[simp] theorem State.setSoft_gpio (s : State) (x : Soft) : (s.setSoft x).gpio = s.gpio := rfl
@[simp] theorem State.setSoft_timer (s : State) (x : Soft) : (s.setSoft x).timer = s.timer := rfl
@[simp] theorem State.setSoft_intc (s : State) (x : Soft) : (s.setSoft x).intc = s.intc := rfl
@[simp] theorem State.setSoft_mbox (s : State) (x : Soft) : (s.setSoft x).mbox = s.mbox := rfl
@[simp] theorem State.setSoft_uart (s : State) (x : Soft) : (s.setSoft x).uart = s.uart := rfl
@[simp] theorem State.setSoft_line (s : State) (x : Soft) : (s.setSoft x).line = s.line := rfl
@[simp] theorem State.setSoft_mem (s : State) (x : Soft) : (s.setSoft x).mem = s.mem := rfl
@[simp] theorem State.setSoft_cyc (s : State) (x : Soft) : (s.setSoft x).cyc = s.cyc := rfl
@[simp] theorem State.setSoft_draws (s : State) (x : Soft) : (s.setSoft x).draws = s.draws := rfl
@[simp] theorem State.setSoft_sched (s : State) (x : Soft) : (s.setSoft x).sched = s.sched := rfl
@[simp] theorem State.setSoft_setSoft (s : State) (x y : Soft) : (s.setSoft x).setSoft y = s.setSoft y := rfl

/-! ### setGpio -/

@[simp] theorem State.setGpio_params (s : State) (x : Gpio) : (s.setGpio x).params = s.params := rfl
@[simp] theorem State.setGpio_cpu (s : State) (x : Gpio) : (s.setGpio x).cpu = s.cpu := rfl
@[simp] theorem State.setGpio_soft (s : State) (x : Gpio) : (s.setGpio x).soft = s.soft := rfl
@[simp] theorem State.setGpio_gpio (s : State) (x : Gpio) : (s.setGpio x).gpio = x := rfl
@[simp] theorem State.setGpio_timer (s : State) (x : Gpio) : (s.setGpio x).timer = s.timer := rfl
@[simp] theorem State.setGpio_intc (s : State) (x : Gpio) : (s.setGpio x).intc = s.intc := rfl
@[simp] theorem State.setGpio_mbox (s : State) (x : Gpio) : (s.setGpio x).mbox = s.mbox := rfl
@[simp] theorem State.setGpio_uart (s : State) (x : Gpio) : (s.setGpio x).uart = s.uart := rfl
@[simp] theorem State.setGpio_line (s : State) (x : Gpio) : (s.setGpio x).line = s.line := rfl
@[simp] theorem State.setGpio_mem (s : State) (x : Gpio) : (s.setGpio x).mem = s.mem := rfl
@[simp] theorem State.setGpio_cyc (s : State) (x : Gpio) : (s.setGpio x).cyc = s.cyc := rfl
@[simp] theorem State.setGpio_draws (s : State) (x : Gpio) : (s.setGpio x).draws = s.draws := rfl
@[simp] theorem State.setGpio_sched (s : State) (x : Gpio) : (s.setGpio x).sched = s.sched := rfl
@[simp] theorem State.setGpio_setGpio (s : State) (x y : Gpio) : (s.setGpio x).setGpio y = s.setGpio y := rfl

/-! ### setTimer -/

@[simp] theorem State.setTimer_params (s : State) (x : Timer) : (s.setTimer x).params = s.params := rfl
@[simp] theorem State.setTimer_cpu (s : State) (x : Timer) : (s.setTimer x).cpu = s.cpu := rfl
@[simp] theorem State.setTimer_soft (s : State) (x : Timer) : (s.setTimer x).soft = s.soft := rfl
@[simp] theorem State.setTimer_gpio (s : State) (x : Timer) : (s.setTimer x).gpio = s.gpio := rfl
@[simp] theorem State.setTimer_timer (s : State) (x : Timer) : (s.setTimer x).timer = x := rfl
@[simp] theorem State.setTimer_intc (s : State) (x : Timer) : (s.setTimer x).intc = s.intc := rfl
@[simp] theorem State.setTimer_mbox (s : State) (x : Timer) : (s.setTimer x).mbox = s.mbox := rfl
@[simp] theorem State.setTimer_uart (s : State) (x : Timer) : (s.setTimer x).uart = s.uart := rfl
@[simp] theorem State.setTimer_line (s : State) (x : Timer) : (s.setTimer x).line = s.line := rfl
@[simp] theorem State.setTimer_mem (s : State) (x : Timer) : (s.setTimer x).mem = s.mem := rfl
@[simp] theorem State.setTimer_cyc (s : State) (x : Timer) : (s.setTimer x).cyc = s.cyc := rfl
@[simp] theorem State.setTimer_draws (s : State) (x : Timer) : (s.setTimer x).draws = s.draws := rfl
@[simp] theorem State.setTimer_sched (s : State) (x : Timer) : (s.setTimer x).sched = s.sched := rfl
@[simp] theorem State.setTimer_setTimer (s : State) (x y : Timer) : (s.setTimer x).setTimer y = s.setTimer y := rfl

/-! ### setIntc -/

@[simp] theorem State.setIntc_params (s : State) (x : Intc) : (s.setIntc x).params = s.params := rfl
@[simp] theorem State.setIntc_cpu (s : State) (x : Intc) : (s.setIntc x).cpu = s.cpu := rfl
@[simp] theorem State.setIntc_soft (s : State) (x : Intc) : (s.setIntc x).soft = s.soft := rfl
@[simp] theorem State.setIntc_gpio (s : State) (x : Intc) : (s.setIntc x).gpio = s.gpio := rfl
@[simp] theorem State.setIntc_timer (s : State) (x : Intc) : (s.setIntc x).timer = s.timer := rfl
@[simp] theorem State.setIntc_intc (s : State) (x : Intc) : (s.setIntc x).intc = x := rfl
@[simp] theorem State.setIntc_mbox (s : State) (x : Intc) : (s.setIntc x).mbox = s.mbox := rfl
@[simp] theorem State.setIntc_uart (s : State) (x : Intc) : (s.setIntc x).uart = s.uart := rfl
@[simp] theorem State.setIntc_line (s : State) (x : Intc) : (s.setIntc x).line = s.line := rfl
@[simp] theorem State.setIntc_mem (s : State) (x : Intc) : (s.setIntc x).mem = s.mem := rfl
@[simp] theorem State.setIntc_cyc (s : State) (x : Intc) : (s.setIntc x).cyc = s.cyc := rfl
@[simp] theorem State.setIntc_draws (s : State) (x : Intc) : (s.setIntc x).draws = s.draws := rfl
@[simp] theorem State.setIntc_sched (s : State) (x : Intc) : (s.setIntc x).sched = s.sched := rfl
@[simp] theorem State.setIntc_setIntc (s : State) (x y : Intc) : (s.setIntc x).setIntc y = s.setIntc y := rfl

/-! ### setMbox -/

@[simp] theorem State.setMbox_params (s : State) (x : Mailbox) : (s.setMbox x).params = s.params := rfl
@[simp] theorem State.setMbox_cpu (s : State) (x : Mailbox) : (s.setMbox x).cpu = s.cpu := rfl
@[simp] theorem State.setMbox_soft (s : State) (x : Mailbox) : (s.setMbox x).soft = s.soft := rfl
@[simp] theorem State.setMbox_gpio (s : State) (x : Mailbox) : (s.setMbox x).gpio = s.gpio := rfl
@[simp] theorem State.setMbox_timer (s : State) (x : Mailbox) : (s.setMbox x).timer = s.timer := rfl
@[simp] theorem State.setMbox_intc (s : State) (x : Mailbox) : (s.setMbox x).intc = s.intc := rfl
@[simp] theorem State.setMbox_mbox (s : State) (x : Mailbox) : (s.setMbox x).mbox = x := rfl
@[simp] theorem State.setMbox_uart (s : State) (x : Mailbox) : (s.setMbox x).uart = s.uart := rfl
@[simp] theorem State.setMbox_line (s : State) (x : Mailbox) : (s.setMbox x).line = s.line := rfl
@[simp] theorem State.setMbox_mem (s : State) (x : Mailbox) : (s.setMbox x).mem = s.mem := rfl
@[simp] theorem State.setMbox_cyc (s : State) (x : Mailbox) : (s.setMbox x).cyc = s.cyc := rfl
@[simp] theorem State.setMbox_draws (s : State) (x : Mailbox) : (s.setMbox x).draws = s.draws := rfl
@[simp] theorem State.setMbox_sched (s : State) (x : Mailbox) : (s.setMbox x).sched = s.sched := rfl
@[simp] theorem State.setMbox_setMbox (s : State) (x y : Mailbox) : (s.setMbox x).setMbox y = s.setMbox y := rfl

/-! ### setUart -/

@[simp] theorem State.setUart_params (s : State) (x : Uart) : (s.setUart x).params = s.params := rfl
@[simp] theorem State.setUart_cpu (s : State) (x : Uart) : (s.setUart x).cpu = s.cpu := rfl
@[simp] theorem State.setUart_soft (s : State) (x : Uart) : (s.setUart x).soft = s.soft := rfl
@[simp] theorem State.setUart_gpio (s : State) (x : Uart) : (s.setUart x).gpio = s.gpio := rfl
@[simp] theorem State.setUart_timer (s : State) (x : Uart) : (s.setUart x).timer = s.timer := rfl
@[simp] theorem State.setUart_intc (s : State) (x : Uart) : (s.setUart x).intc = s.intc := rfl
@[simp] theorem State.setUart_mbox (s : State) (x : Uart) : (s.setUart x).mbox = s.mbox := rfl
@[simp] theorem State.setUart_uart (s : State) (x : Uart) : (s.setUart x).uart = x := rfl
@[simp] theorem State.setUart_line (s : State) (x : Uart) : (s.setUart x).line = s.line := rfl
@[simp] theorem State.setUart_mem (s : State) (x : Uart) : (s.setUart x).mem = s.mem := rfl
@[simp] theorem State.setUart_cyc (s : State) (x : Uart) : (s.setUart x).cyc = s.cyc := rfl
@[simp] theorem State.setUart_draws (s : State) (x : Uart) : (s.setUart x).draws = s.draws := rfl
@[simp] theorem State.setUart_sched (s : State) (x : Uart) : (s.setUart x).sched = s.sched := rfl
@[simp] theorem State.setUart_setUart (s : State) (x y : Uart) : (s.setUart x).setUart y = s.setUart y := rfl

/-! ### setLine -/

@[simp] theorem State.setLine_params (s : State) (x : Line) : (s.setLine x).params = s.params := rfl
@[simp] theorem State.setLine_cpu (s : State) (x : Line) : (s.setLine x).cpu = s.cpu := rfl
@[simp] theorem State.setLine_soft (s : State) (x : Line) : (s.setLine x).soft = s.soft := rfl
@[simp] theorem State.setLine_gpio (s : State) (x : Line) : (s.setLine x).gpio = s.gpio := rfl
@[simp] theorem State.setLine_timer (s : State) (x : Line) : (s.setLine x).timer = s.timer := rfl
@[simp] theorem State.setLine_intc (s : State) (x : Line) : (s.setLine x).intc = s.intc := rfl
@[simp] theorem State.setLine_mbox (s : State) (x : Line) : (s.setLine x).mbox = s.mbox := rfl
@[simp] theorem State.setLine_uart (s : State) (x : Line) : (s.setLine x).uart = s.uart := rfl
@[simp] theorem State.setLine_line (s : State) (x : Line) : (s.setLine x).line = x := rfl
@[simp] theorem State.setLine_mem (s : State) (x : Line) : (s.setLine x).mem = s.mem := rfl
@[simp] theorem State.setLine_cyc (s : State) (x : Line) : (s.setLine x).cyc = s.cyc := rfl
@[simp] theorem State.setLine_draws (s : State) (x : Line) : (s.setLine x).draws = s.draws := rfl
@[simp] theorem State.setLine_sched (s : State) (x : Line) : (s.setLine x).sched = s.sched := rfl
@[simp] theorem State.setLine_setLine (s : State) (x y : Line) : (s.setLine x).setLine y = s.setLine y := rfl

/-! ### setMem -/

@[simp] theorem State.setMem_params (s : State) (x : Memory) : (s.setMem x).params = s.params := rfl
@[simp] theorem State.setMem_cpu (s : State) (x : Memory) : (s.setMem x).cpu = s.cpu := rfl
@[simp] theorem State.setMem_soft (s : State) (x : Memory) : (s.setMem x).soft = s.soft := rfl
@[simp] theorem State.setMem_gpio (s : State) (x : Memory) : (s.setMem x).gpio = s.gpio := rfl
@[simp] theorem State.setMem_timer (s : State) (x : Memory) : (s.setMem x).timer = s.timer := rfl
@[simp] theorem State.setMem_intc (s : State) (x : Memory) : (s.setMem x).intc = s.intc := rfl
@[simp] theorem State.setMem_mbox (s : State) (x : Memory) : (s.setMem x).mbox = s.mbox := rfl
@[simp] theorem State.setMem_uart (s : State) (x : Memory) : (s.setMem x).uart = s.uart := rfl
@[simp] theorem State.setMem_line (s : State) (x : Memory) : (s.setMem x).line = s.line := rfl
@[simp] theorem State.setMem_mem (s : State) (x : Memory) : (s.setMem x).mem = x := rfl
@[simp] theorem State.setMem_cyc (s : State) (x : Memory) : (s.setMem x).cyc = s.cyc := rfl
@[simp] theorem State.setMem_draws (s : State) (x : Memory) : (s.setMem x).draws = s.draws := rfl
@[simp] theorem State.setMem_sched (s : State) (x : Memory) : (s.setMem x).sched = s.sched := rfl
@[simp] theorem State.setMem_setMem (s : State) (x y : Memory) : (s.setMem x).setMem y = s.setMem y := rfl

/-! ### setCyc -/

@[simp] theorem State.setCyc_params (s : State) (x : Nat) : (s.setCyc x).params = s.params := rfl
@[simp] theorem State.setCyc_cpu (s : State) (x : Nat) : (s.setCyc x).cpu = s.cpu := rfl
@[simp] theorem State.setCyc_soft (s : State) (x : Nat) : (s.setCyc x).soft = s.soft := rfl
@[simp] theorem State.setCyc_gpio (s : State) (x : Nat) : (s.setCyc x).gpio = s.gpio := rfl
@[simp] theorem State.setCyc_timer (s : State) (x : Nat) : (s.setCyc x).timer = s.timer := rfl
@[simp] theorem State.setCyc_intc (s : State) (x : Nat) : (s.setCyc x).intc = s.intc := rfl
@[simp] theorem State.setCyc_mbox (s : State) (x : Nat) : (s.setCyc x).mbox = s.mbox := rfl
@[simp] theorem State.setCyc_uart (s : State) (x : Nat) : (s.setCyc x).uart = s.uart := rfl
@[simp] theorem State.setCyc_line (s : State) (x : Nat) : (s.setCyc x).line = s.line := rfl
@[simp] theorem State.setCyc_mem (s : State) (x : Nat) : (s.setCyc x).mem = s.mem := rfl
@[simp] theorem State.setCyc_cyc (s : State) (x : Nat) : (s.setCyc x).cyc = x := rfl
@[simp] theorem State.setCyc_draws (s : State) (x : Nat) : (s.setCyc x).draws = s.draws := rfl
@[simp] theorem State.setCyc_sched (s : State) (x : Nat) : (s.setCyc x).sched = s.sched := rfl
@[simp] theorem State.setCyc_setCyc (s : State) (x y : Nat) : (s.setCyc x).setCyc y = s.setCyc y := rfl

/-! ### setDraws -/

@[simp] theorem State.setDraws_params (s : State) (x : Nat) : (s.setDraws x).params = s.params := rfl
@[simp] theorem State.setDraws_cpu (s : State) (x : Nat) : (s.setDraws x).cpu = s.cpu := rfl
@[simp] theorem State.setDraws_soft (s : State) (x : Nat) : (s.setDraws x).soft = s.soft := rfl
@[simp] theorem State.setDraws_gpio (s : State) (x : Nat) : (s.setDraws x).gpio = s.gpio := rfl
@[simp] theorem State.setDraws_timer (s : State) (x : Nat) : (s.setDraws x).timer = s.timer := rfl
@[simp] theorem State.setDraws_intc (s : State) (x : Nat) : (s.setDraws x).intc = s.intc := rfl
@[simp] theorem State.setDraws_mbox (s : State) (x : Nat) : (s.setDraws x).mbox = s.mbox := rfl
@[simp] theorem State.setDraws_uart (s : State) (x : Nat) : (s.setDraws x).uart = s.uart := rfl
@[simp] theorem State.setDraws_line (s : State) (x : Nat) : (s.setDraws x).line = s.line := rfl
@[simp] theorem State.setDraws_mem (s : State) (x : Nat) : (s.setDraws x).mem = s.mem := rfl
@[simp] theorem State.setDraws_cyc (s : State) (x : Nat) : (s.setDraws x).cyc = s.cyc := rfl
@[simp] theorem State.setDraws_draws (s : State) (x : Nat) : (s.setDraws x).draws = x := rfl
@[simp] theorem State.setDraws_sched (s : State) (x : Nat) : (s.setDraws x).sched = s.sched := rfl
@[simp] theorem State.setDraws_setDraws (s : State) (x y : Nat) : (s.setDraws x).setDraws y = s.setDraws y := rfl

/-! ### setSched -/

@[simp] theorem State.setSched_params (s : State) (x : List Config.Turn) : (s.setSched x).params = s.params := rfl
@[simp] theorem State.setSched_cpu (s : State) (x : List Config.Turn) : (s.setSched x).cpu = s.cpu := rfl
@[simp] theorem State.setSched_soft (s : State) (x : List Config.Turn) : (s.setSched x).soft = s.soft := rfl
@[simp] theorem State.setSched_gpio (s : State) (x : List Config.Turn) : (s.setSched x).gpio = s.gpio := rfl
@[simp] theorem State.setSched_timer (s : State) (x : List Config.Turn) : (s.setSched x).timer = s.timer := rfl
@[simp] theorem State.setSched_intc (s : State) (x : List Config.Turn) : (s.setSched x).intc = s.intc := rfl
@[simp] theorem State.setSched_mbox (s : State) (x : List Config.Turn) : (s.setSched x).mbox = s.mbox := rfl
@[simp] theorem State.setSched_uart (s : State) (x : List Config.Turn) : (s.setSched x).uart = s.uart := rfl
@[simp] theorem State.setSched_line (s : State) (x : List Config.Turn) : (s.setSched x).line = s.line := rfl
@[simp] theorem State.setSched_mem (s : State) (x : List Config.Turn) : (s.setSched x).mem = s.mem := rfl
@[simp] theorem State.setSched_cyc (s : State) (x : List Config.Turn) : (s.setSched x).cyc = s.cyc := rfl
@[simp] theorem State.setSched_draws (s : State) (x : List Config.Turn) : (s.setSched x).draws = s.draws := rfl
@[simp] theorem State.setSched_sched (s : State) (x : List Config.Turn) : (s.setSched x).sched = x := rfl
@[simp] theorem State.setSched_setSched (s : State) (x y : List Config.Turn) : (s.setSched x).setSched y = s.setSched y := rfl

/-! ### setCont -/

@[simp] theorem State.setCont_params (s : State) (x : List Task) : (s.setCont x).params = s.params := rfl
@[simp] theorem State.setCont_soft (s : State) (x : List Task) : (s.setCont x).soft = s.soft := rfl
@[simp] theorem State.setCont_gpio (s : State) (x : List Task) : (s.setCont x).gpio = s.gpio := rfl
@[simp] theorem State.setCont_timer (s : State) (x : List Task) : (s.setCont x).timer = s.timer := rfl
@[simp] theorem State.setCont_intc (s : State) (x : List Task) : (s.setCont x).intc = s.intc := rfl
@[simp] theorem State.setCont_mbox (s : State) (x : List Task) : (s.setCont x).mbox = s.mbox := rfl
@[simp] theorem State.setCont_uart (s : State) (x : List Task) : (s.setCont x).uart = s.uart := rfl
@[simp] theorem State.setCont_line (s : State) (x : List Task) : (s.setCont x).line = s.line := rfl
@[simp] theorem State.setCont_mem (s : State) (x : List Task) : (s.setCont x).mem = s.mem := rfl
@[simp] theorem State.setCont_cyc (s : State) (x : List Task) : (s.setCont x).cyc = s.cyc := rfl
@[simp] theorem State.setCont_draws (s : State) (x : List Task) : (s.setCont x).draws = s.draws := rfl
@[simp] theorem State.setCont_sched (s : State) (x : List Task) : (s.setCont x).sched = s.sched := rfl
@[simp] theorem State.setCont_cpu_ctx (s : State) (x : List Task) : (s.setCont x).cpu.ctx = s.cpu.ctx := rfl
@[simp] theorem State.setCont_cpu_irqMask (s : State) (x : List Task) : (s.setCont x).cpu.irqMask = s.cpu.irqMask := rfl
@[simp] theorem State.setCont_cpu_vbar (s : State) (x : List Task) : (s.setCont x).cpu.vbar = s.cpu.vbar := rfl
@[simp] theorem State.setCont_cpu_vbarSet (s : State) (x : List Task) : (s.setCont x).cpu.vbarSet = s.cpu.vbarSet := rfl
@[simp] theorem State.setCont_cpu_saved (s : State) (x : List Task) : (s.setCont x).cpu.saved = s.cpu.saved := rfl
@[simp] theorem State.setCont_cpu_savedMask (s : State) (x : List Task) : (s.setCont x).cpu.savedMask = s.cpu.savedMask := rfl
@[simp] theorem State.setCont_cpu_icPhase (s : State) (x : List Task) : (s.setCont x).cpu.icPhase = s.cpu.icPhase := rfl
@[simp] theorem State.setCont_cpu_cont (s : State) (x : List Task) : (s.setCont x).cpu.cont = x := rfl
@[simp] theorem State.setCont_setCont (s : State) (x y : List Task) : (s.setCont x).setCont y = s.setCont y := rfl
@[simp] theorem State.setCont_self (s : State) : s.setCont s.cpu.cont = s := rfl

/-! ### retire, skip, push -/

@[simp] theorem State.retire_params (n : Nat) (s : State) : (s.retire n).params = s.params := rfl
@[simp] theorem State.retire_cpu (n : Nat) (s : State) : (s.retire n).cpu = s.cpu := rfl
@[simp] theorem State.retire_soft (n : Nat) (s : State) : (s.retire n).soft = s.soft := rfl
@[simp] theorem State.retire_gpio (n : Nat) (s : State) : (s.retire n).gpio = s.gpio := rfl
@[simp] theorem State.retire_timer (n : Nat) (s : State) : (s.retire n).timer = s.timer := rfl
@[simp] theorem State.retire_intc (n : Nat) (s : State) : (s.retire n).intc = s.intc := rfl
@[simp] theorem State.retire_mbox (n : Nat) (s : State) : (s.retire n).mbox = s.mbox := rfl
@[simp] theorem State.retire_uart (n : Nat) (s : State) : (s.retire n).uart = s.uart := rfl
@[simp] theorem State.retire_line (n : Nat) (s : State) : (s.retire n).line = s.line := rfl
@[simp] theorem State.retire_mem (n : Nat) (s : State) : (s.retire n).mem = s.mem := rfl
@[simp] theorem State.retire_cyc (n : Nat) (s : State) : (s.retire n).cyc = s.cyc + (max n 1 + Config.extraCycles s.draws) := rfl
@[simp] theorem State.retire_draws (n : Nat) (s : State) : (s.retire n).draws = s.draws + 1 := rfl
@[simp] theorem State.retire_sched (n : Nat) (s : State) : (s.retire n).sched = s.sched := rfl
@[simp] theorem State.skip_params (s : State) : s.skip.params = s.params := rfl
@[simp] theorem State.skip_cpu (s : State) : s.skip.cpu = s.cpu := rfl
@[simp] theorem State.skip_soft (s : State) : s.skip.soft = s.soft := rfl
@[simp] theorem State.skip_gpio (s : State) : s.skip.gpio = s.gpio := rfl
@[simp] theorem State.skip_timer (s : State) : s.skip.timer = s.timer := rfl
@[simp] theorem State.skip_intc (s : State) : s.skip.intc = s.intc := rfl
@[simp] theorem State.skip_mbox (s : State) : s.skip.mbox = s.mbox := rfl
@[simp] theorem State.skip_uart (s : State) : s.skip.uart = s.uart := rfl
@[simp] theorem State.skip_line (s : State) : s.skip.line = s.line := rfl
@[simp] theorem State.skip_mem (s : State) : s.skip.mem = s.mem := rfl
@[simp] theorem State.skip_cyc (s : State) : s.skip.cyc = s.cyc := rfl
@[simp] theorem State.skip_draws (s : State) : s.skip.draws = s.draws + 1 := rfl
@[simp] theorem State.skip_sched (s : State) : s.skip.sched = s.sched := rfl
@[simp] theorem State.push_params (ts : List Task) (s : State) : (s.push ts).params = s.params := rfl
@[simp] theorem State.push_soft (ts : List Task) (s : State) : (s.push ts).soft = s.soft := rfl
@[simp] theorem State.push_gpio (ts : List Task) (s : State) : (s.push ts).gpio = s.gpio := rfl
@[simp] theorem State.push_timer (ts : List Task) (s : State) : (s.push ts).timer = s.timer := rfl
@[simp] theorem State.push_intc (ts : List Task) (s : State) : (s.push ts).intc = s.intc := rfl
@[simp] theorem State.push_mbox (ts : List Task) (s : State) : (s.push ts).mbox = s.mbox := rfl
@[simp] theorem State.push_uart (ts : List Task) (s : State) : (s.push ts).uart = s.uart := rfl
@[simp] theorem State.push_line (ts : List Task) (s : State) : (s.push ts).line = s.line := rfl
@[simp] theorem State.push_mem (ts : List Task) (s : State) : (s.push ts).mem = s.mem := rfl
@[simp] theorem State.push_cyc (ts : List Task) (s : State) : (s.push ts).cyc = s.cyc := rfl
@[simp] theorem State.push_draws (ts : List Task) (s : State) : (s.push ts).draws = s.draws := rfl
@[simp] theorem State.push_sched (ts : List Task) (s : State) : (s.push ts).sched = s.sched := rfl
@[simp] theorem State.push_cpu_ctx (ts : List Task) (s : State) : (s.push ts).cpu.ctx = s.cpu.ctx := rfl
@[simp] theorem State.push_cpu_irqMask (ts : List Task) (s : State) : (s.push ts).cpu.irqMask = s.cpu.irqMask := rfl
@[simp] theorem State.push_cpu_vbar (ts : List Task) (s : State) : (s.push ts).cpu.vbar = s.cpu.vbar := rfl
@[simp] theorem State.push_cpu_vbarSet (ts : List Task) (s : State) : (s.push ts).cpu.vbarSet = s.cpu.vbarSet := rfl
@[simp] theorem State.push_cpu_saved (ts : List Task) (s : State) : (s.push ts).cpu.saved = s.cpu.saved := rfl
@[simp] theorem State.push_cpu_savedMask (ts : List Task) (s : State) : (s.push ts).cpu.savedMask = s.cpu.savedMask := rfl
@[simp] theorem State.push_cpu_icPhase (ts : List Task) (s : State) : (s.push ts).cpu.icPhase = s.cpu.icPhase := rfl
@[simp] theorem State.push_cpu_cont (ts : List Task) (s : State) : (s.push ts).cpu.cont = ts ++ s.cpu.cont := rfl

/-- A CPU step costs at least one cycle, and at least `n` (10 R104). -/
theorem State.retire_cyc_le (n : Nat) (s : State) : s.cyc + max n 1 ≤ (s.retire n).cyc := by
  simp only [State.retire_cyc]; omega

end Sys2Proof.Machine
end

