-- ==== Sys2Proof/Laws/Memory.lean ====
section
/-! SUPPORT. RAM: every operation keeps the canonical form, a read gives what was last written, and a write leaves every other
address alone (20_memory R210, log 12). -/

namespace Sys2Proof.Machine

open Sys2Proof

/-! ### The canonical form -/

@[simp] theorem Memory.wf_nil (p : Config.Params) : Memory.wf p [] = true := rfl

theorem Memory.wf_cons {p : Config.Params} {c : Host.Cell} {m : Memory} :
    Memory.wf p (c :: m) = true ↔
      c.1 < 4294967296 ∧ imageByte p c.1 ≠ some c.2 ∧ (∀ d ∈ m, c.1 < d.1) ∧ Memory.wf p m = true := by
  simp [Memory.wf, and_assoc]

theorem Memory.mem_erase {m : Memory} {a : Nat} {d : Host.Cell} (h : d ∈ Memory.erase m a) : d ∈ m := by
  induction m with
  | nil => simp [Memory.erase] at h
  | cons c m ih =>
    simp only [Memory.erase] at h
    split at h
    · exact List.mem_cons_of_mem _ h
    · rcases List.mem_cons.1 h with rfl | h
      · exact List.mem_cons_self
      · exact List.mem_cons_of_mem _ (ih h)

theorem Memory.mem_insert {m : Memory} {a : Nat} {b : Byte} {d : Host.Cell} (h : d ∈ Memory.insert m a b) :
    d = (a, b) ∨ d ∈ m := by
  induction m with
  | nil => simpa [Memory.insert] using h
  | cons c m ih =>
    simp only [Memory.insert] at h
    split at h
    · simpa using h
    · split at h
      · rcases List.mem_cons.1 h with h | h
        · exact .inl h
        · exact .inr (List.mem_cons_of_mem _ h)
      · rcases List.mem_cons.1 h with rfl | h
        · exact .inr List.mem_cons_self
        · exact (ih h).imp id (List.mem_cons_of_mem _)

theorem Memory.wf_erase {p : Config.Params} {m : Memory} (a : Nat) (h : m.wf p = true) : (m.erase a).wf p = true := by
  induction m with
  | nil => rfl
  | cons c m ih =>
    obtain ⟨h1, h2, h3, h4⟩ := Memory.wf_cons.1 h
    simp only [Memory.erase]
    split
    · exact h4
    · exact Memory.wf_cons.2 ⟨h1, h2, fun d hd => h3 d (Memory.mem_erase hd), ih h4⟩

theorem Memory.wf_insert {p : Config.Params} {m : Memory} {a : Nat} {b : Byte} (ha : a < 4294967296)
    (hb : imageByte p a ≠ some b) (h : m.wf p = true) : (m.insert a b).wf p = true := by
  induction m with
  | nil => exact Memory.wf_cons.2 ⟨ha, hb, by simp, rfl⟩
  | cons c m ih =>
    obtain ⟨h1, h2, h3, h4⟩ := Memory.wf_cons.1 h
    simp only [Memory.insert]
    split
    · rename_i hlt
      exact Memory.wf_cons.2 ⟨ha, hb, fun d hd => by
        rcases List.mem_cons.1 hd with rfl | hd
        · exact hlt
        · exact hlt.trans (h3 d hd), h⟩
    · split
      · rename_i heq
        exact Memory.wf_cons.2 ⟨ha, hb, fun d hd => heq ▸ h3 d hd, h4⟩
      · refine Memory.wf_cons.2 ⟨h1, h2, fun d hd => ?_, ih h4⟩
        rcases Memory.mem_insert hd with rfl | hd
        · show c.1 < a; omega
        · exact h3 d hd

theorem Memory.wf_put {p : Config.Params} {m : Memory} {a : Nat} (b : Byte) (ha : a < 4294967296) (h : m.wf p = true) :
    (m.put p a b).wf p = true := by
  unfold Memory.put
  split
  · exact Memory.wf_erase a h
  · rename_i hb; exact Memory.wf_insert ha hb h

/-! ### Reading what was written -/

@[simp] theorem Memory.lookup_nil (a : Nat) : Memory.lookup [] a = none := rfl

theorem Memory.lookup_cons (c : Host.Cell) (m : Memory) (a : Nat) :
    Memory.lookup (c :: m) a = if a = c.1 then some c.2 else Memory.lookup m a := by
  unfold Memory.lookup
  rw [List.lookup_cons]
  by_cases h : a = c.1
  · simp [h]
  · rw [show (a == c.1) = false by simpa using h, if_neg h]

theorem Memory.lookup_none {m : Memory} {a : Nat} (h : ∀ d ∈ m, d.1 ≠ a) : m.lookup a = none := by
  induction m with
  | nil => rfl
  | cons c m ih =>
    rw [Memory.lookup_cons, if_neg (fun e => h c List.mem_cons_self e.symm)]
    exact ih fun d hd => h d (List.mem_cons_of_mem _ hd)

theorem Memory.lookup_erase {p : Config.Params} {m : Memory} (h : m.wf p = true) (a x : Nat) :
    (m.erase a).lookup x = if x = a then none else m.lookup x := by
  induction m with
  | nil => simp [Memory.erase]
  | cons c m ih =>
    obtain ⟨-, -, h3, h4⟩ := Memory.wf_cons.1 h
    simp only [Memory.erase]
    split
    · rename_i heq
      subst heq
      split
      · rename_i hx; subst hx
        exact Memory.lookup_none fun d hd => (h3 d hd).ne'
      · rename_i hx; rw [Memory.lookup_cons, if_neg hx]
    · rename_i hne
      rw [Memory.lookup_cons, Memory.lookup_cons, ih h4]
      split
      · rename_i hx; rw [if_neg (by omega)]
      · rfl

theorem Memory.lookup_insert (m : Memory) (a x : Nat) (b : Byte) :
    (m.insert a b).lookup x = if x = a then some b else m.lookup x := by
  induction m with
  | nil => simp [Memory.insert, Memory.lookup_cons]
  | cons c m ih =>
    simp only [Memory.insert]
    split
    · rw [Memory.lookup_cons]
    · split
      · rename_i heq; rw [Memory.lookup_cons, Memory.lookup_cons, heq]; split <;> rfl
      · rename_i hne
        rw [Memory.lookup_cons, ih, Memory.lookup_cons]
        split
        · rename_i hx; rw [if_neg (by omega)]
        · rfl

/-- A byte written reads back, and every other byte reads as before. -/
theorem State.byteAt_putByte {s : State} (h : s.mem.wf s.params = true) (a x : Nat) (b : Byte) :
    (s.putByte a b).byteAt x = if x = a then b else s.byteAt x := by
  unfold State.byteAt State.putByte Memory.put
  simp only [State.setMem_mem, State.setMem_params]
  by_cases hi : imageByte s.params a = some b
  · rw [if_pos hi, Memory.lookup_erase h]
    by_cases hx : x = a
    · subst hx; simp [hi]
    · simp [hx]
  · rw [if_neg hi, Memory.lookup_insert]
    by_cases hx : x = a <;> simp [hx]

@[simp] theorem State.putByte_params (s : State) (a : Nat) (b : Byte) : (s.putByte a b).params = s.params := rfl
@[simp] theorem State.putByte_cpu (s : State) (a : Nat) (b : Byte) : (s.putByte a b).cpu = s.cpu := rfl

theorem State.wf_putByte {s : State} {a : Nat} (b : Byte) (ha : a < 4294967296) (h : s.mem.wf s.params = true) :
    (s.putByte a b).mem.wf (s.putByte a b).params = true := Memory.wf_put b ha h

/-! ### Words -/

/-- A store of a word is a store of RAM alone. -/
theorem State.putWord_eq (s : State) (a : Nat) (v : Word) : s.putWord a v = s.setMem (s.putWord a v).mem := by
  unfold State.putWord State.putByte
  simp only [State.setMem_setMem, State.setMem_mem]

@[simp] theorem State.putWord_params (s : State) (a : Nat) (v : Word) : (s.putWord a v).params = s.params := by
  rw [State.putWord_eq, State.setMem_params]
@[simp] theorem State.putWord_cpu (s : State) (a : Nat) (v : Word) : (s.putWord a v).cpu = s.cpu := by
  rw [State.putWord_eq, State.setMem_cpu]
@[simp] theorem State.putWord_soft (s : State) (a : Nat) (v : Word) : (s.putWord a v).soft = s.soft := by
  rw [State.putWord_eq, State.setMem_soft]
@[simp] theorem State.putWord_gpio (s : State) (a : Nat) (v : Word) : (s.putWord a v).gpio = s.gpio := by
  rw [State.putWord_eq, State.setMem_gpio]
@[simp] theorem State.putWord_timer (s : State) (a : Nat) (v : Word) : (s.putWord a v).timer = s.timer := by
  rw [State.putWord_eq, State.setMem_timer]
@[simp] theorem State.putWord_intc (s : State) (a : Nat) (v : Word) : (s.putWord a v).intc = s.intc := by
  rw [State.putWord_eq, State.setMem_intc]
@[simp] theorem State.putWord_mbox (s : State) (a : Nat) (v : Word) : (s.putWord a v).mbox = s.mbox := by
  rw [State.putWord_eq, State.setMem_mbox]
@[simp] theorem State.putWord_uart (s : State) (a : Nat) (v : Word) : (s.putWord a v).uart = s.uart := by
  rw [State.putWord_eq, State.setMem_uart]
@[simp] theorem State.putWord_line (s : State) (a : Nat) (v : Word) : (s.putWord a v).line = s.line := by
  rw [State.putWord_eq, State.setMem_line]
@[simp] theorem State.putWord_cyc (s : State) (a : Nat) (v : Word) : (s.putWord a v).cyc = s.cyc := by
  rw [State.putWord_eq, State.setMem_cyc]
@[simp] theorem State.putWord_draws (s : State) (a : Nat) (v : Word) : (s.putWord a v).draws = s.draws := by
  rw [State.putWord_eq, State.setMem_draws]
@[simp] theorem State.putWord_sched (s : State) (a : Nat) (v : Word) : (s.putWord a v).sched = s.sched := by
  rw [State.putWord_eq, State.setMem_sched]

theorem State.wf_putWord {s : State} {a : Nat} (v : Word) (ha : a + 3 < 4294967296) (h : s.mem.wf s.params = true) :
    (s.putWord a v).mem.wf s.params = true :=
  Memory.wf_put _ (by omega) (Memory.wf_put _ (by omega) (Memory.wf_put _ (by omega) (Memory.wf_put _ (by omega) h)))

/-- A byte after a store of a word: one of the word's four bytes, or what it was (20 R210). -/
theorem State.byteAt_putWord {s : State} {a : Nat} (v : Word) (ha : a + 3 < 4294967296) (h : s.mem.wf s.params = true)
    (x : Nat) :
    (s.putWord a v).byteAt x =
      if x = a + 3 then v.extractLsb' 24 8 else if x = a + 2 then v.extractLsb' 16 8
      else if x = a + 1 then v.extractLsb' 8 8 else if x = a then v.extractLsb' 0 8 else s.byteAt x := by
  have h1 := State.wf_putByte (s := s) (a := a) (v.extractLsb' 0 8) (by omega) h
  have h2 := State.wf_putByte (a := a + 1) (v.extractLsb' 8 8) (by omega) h1
  have h3 := State.wf_putByte (a := a + 2) (v.extractLsb' 16 8) (by omega) h2
  unfold State.putWord
  rw [State.byteAt_putByte h3, State.byteAt_putByte h2, State.byteAt_putByte h1, State.byteAt_putByte h]

/-- A store leaves every byte outside the word alone. -/
theorem State.byteAt_putWord_outside {s : State} {a : Nat} (v : Word) (ha : a + 3 < 4294967296)
    (h : s.mem.wf s.params = true) {x : Nat} (hx : x < a ∨ a + 4 ≤ x) : (s.putWord a v).byteAt x = s.byteAt x := by
  rw [State.byteAt_putWord v ha h, if_neg (by omega), if_neg (by omega), if_neg (by omega), if_neg (by omega)]

/-- The four bytes of a word, put together, are the word. -/
theorem bytes_of_word (v : Word) :
    v.extractLsb' 24 8 ++ v.extractLsb' 16 8 ++ v.extractLsb' 8 8 ++ v.extractLsb' 0 8 = v := by
  apply BitVec.eq_of_getLsbD_eq
  intro i hi
  simp only [BitVec.getLsbD_append, BitVec.getLsbD_extractLsb']
  by_cases h1 : i < 8
  · simp [h1]
  · by_cases h2 : i - 8 < 8
    · simp [h1, h2, show 8 + (i - 8) = i by omega]
    · by_cases h3 : i - 8 - 8 < 8
      · simp [h1, h2, h3, show 16 + (i - 8 - 8) = i by omega]
      · simp [h1, h2, h3, show 24 + (i - 8 - 8 - 8) = i by omega, show i - 8 - 8 - 8 < 8 by omega]

/-- A word stored reads back. -/
theorem State.wordAt_putWord {s : State} {a : Nat} (v : Word) (ha : a + 3 < 4294967296) (h : s.mem.wf s.params = true) :
    (s.putWord a v).wordAt a = v := by
  conv_rhs => rw [← bytes_of_word v]
  simp only [State.wordAt, State.byteAt_putWord v ha h]
  simp

/-! ### The GPU's writes -/

@[simp] theorem gpuWrites_nil (base : Nat) (s : State) : gpuWrites base [] s = s := rfl

theorem gpuWrites_cons (base : Nat) (w : Nat × Word) (ws : List (Nat × Word)) (s : State) :
    gpuWrites base (w :: ws) s =
      gpuWrites base ws
        (if w.1 < 28 ∧ base + 4 * w.1 + 4 ≤ s.params.periphBase.toNat then s.putWord (base + 4 * w.1) w.2 else s) := rfl

/-- What the GPU writes is RAM alone. -/
theorem gpuWrites_eq (base : Nat) (words : List (Nat × Word)) (s : State) :
    gpuWrites base words s = s.setMem (gpuWrites base words s).mem := by
  induction words generalizing s with
  | nil => rfl
  | cons w ws ih =>
    rw [gpuWrites_cons, ih]
    split
    · rw [State.putWord_eq, State.setMem_setMem, State.setMem_mem]
    · rfl

@[simp] theorem gpuWrites_params (base : Nat) (words : List (Nat × Word)) (s : State) :
    (gpuWrites base words s).params = s.params := by rw [gpuWrites_eq]; rfl

/-- A word that the GPU may write ends below 2^32. -/
theorem ram_word_bound {p : Config.Params} {a : Nat} (h : a + 4 ≤ p.periphBase.toNat) : a + 3 < 4294967296 := by
  have := p.periphBase.isLt
  omega

/-- The GPU's writes keep the canonical form. -/
theorem wf_gpuWrites (base : Nat) (words : List (Nat × Word)) (s : State) (h : s.mem.wf s.params = true) :
    (gpuWrites base words s).mem.wf s.params = true := by
  induction words generalizing s with
  | nil => exact h
  | cons w ws ih =>
    rw [gpuWrites_cons]
    split
    · rename_i hw
      have := ih (s.putWord (base + 4 * w.1) w.2) (by
        rw [State.putWord_params]; exact State.wf_putWord w.2 (ram_word_bound hw.2) h)
      rwa [State.putWord_params] at this
    · exact ih _ h

theorem gpuWrites_append (base : Nat) (xs ys : List (Nat × Word)) (s : State) :
    gpuWrites base (xs ++ ys) s = gpuWrites base ys (gpuWrites base xs s) := by
  unfold gpuWrites
  rw [List.foldl_append]

/-- The GPU's writes leave a byte alone that is in none of the words written (42 R640 b). -/
theorem byteAt_gpuWrites (base : Nat) (words : List (Nat × Word)) (s : State) (h : s.mem.wf s.params = true) {x : Nat}
    (hx : ∀ w ∈ words, w.1 < 28 → base + 4 * w.1 + 4 ≤ s.params.periphBase.toNat →
      x < base + 4 * w.1 ∨ base + 4 * w.1 + 4 ≤ x) : (gpuWrites base words s).byteAt x = s.byteAt x := by
  induction words generalizing s with
  | nil => rfl
  | cons w ws ih =>
    rw [gpuWrites_cons]
    split
    · rename_i hw
      rw [ih _ (by rw [State.putWord_params]; exact State.wf_putWord w.2 (ram_word_bound hw.2) h)
        (by rw [State.putWord_params]; exact fun v hv => hx v (List.mem_cons_of_mem w hv))]
      exact State.byteAt_putWord_outside w.2 (ram_word_bound hw.2) h (hx w List.mem_cons_self hw.1 hw.2)
    · exact ih _ h fun v hv => hx v (List.mem_cons_of_mem w hv)

/-- The GPU's writes leave every byte outside the 112 bytes of the buffer alone (42 R640 b). -/
theorem byteAt_gpuWrites_outside (base : Nat) (words : List (Nat × Word)) (s : State) (h : s.mem.wf s.params = true)
    {x : Nat} (hx : x < base ∨ base + 112 ≤ x) : (gpuWrites base words s).byteAt x = s.byteAt x :=
  byteAt_gpuWrites base words s h fun w _ _ _ => by omega

end Sys2Proof.Machine
end

