-- ==== Sys2Proof/Laws/Ops.lean ====
section
/-! SUPPORT. For each shared operation, once, what it can do: proofs cite these and do not unfold the operation. -/

namespace Sys2Proof.Machine

open Sys2Proof

/-! ### The ends of a primitive -/

theorem wrote_eq (s : State) : wrote s = .next (s.retire 1) := rfl
theorem readInto_eq (d : Dest) (v : Word) (s : State) : readInto d v s = .next (deliver d v (s.retire 1)) := rfl
theorem readReg_eq (d : Dest) (mask v : Word) (s : State) :
    readReg d mask v s = .next (deliver d (withDraw mask v s) (s.retire 1)) := rfl
theorem writeReadOnly_eq (v : Expr) (s : State) : writeReadOnly v s = .next (s.retire 1) := rfl
theorem expandTo_eq (ts : List Task) (s : State) : expandTo ts s = .next (s.push ts) := rfl

/-- A bit of a read value: the register's where the mask has a 1, the draw's elsewhere (40 R407). -/
theorem getLsbD_withDraw (mask v : Word) (s : State) (i : Nat) :
    (withDraw mask v s).getLsbD i = if mask.getLsbD i then v.getLsbD i else (Config.draw s.draws).getLsbD i := by
  unfold withDraw
  rw [BitVec.getLsbD_or, BitVec.getLsbD_and, BitVec.getLsbD_and, BitVec.getLsbD_not]
  by_cases hi : i < 32
  · cases mask.getLsbD i <;> simp only [hi, decide_true, Bool.not_true, Bool.not_false, Bool.and_true,
      Bool.and_false, Bool.or_false, Bool.false_or, if_true, Bool.false_eq_true, if_false]
  · simp [BitVec.getLsbD_of_ge _ i (by omega : 32 ≤ i)]

/-- A read with no reserved bit gives the register's value. -/
@[simp] theorem withDraw_all (v : Word) (s : State) : withDraw 0xFFFFFFFF#32 v s = v := by
  unfold withDraw
  rw [show (0xFFFFFFFF#32 : Word) = BitVec.allOnes 32 from rfl, BitVec.and_allOnes, BitVec.not_allOnes, BitVec.and_zero,
    BitVec.or_zero]

/-! ### Bits -/

theorem getLsbD_ofBits (n : Nat) (f : Nat → Bool) (i : Nat) : (ofBits n f).getLsbD i = (decide (i < n) && f i) := by
  induction n with
  | zero => simp [ofBits]
  | succ n ih =>
    rw [ofBits, BitVec.getLsbD_cons]
    by_cases h : i = n
    · subst h; simp
    · rw [if_neg h, ih]
      by_cases h' : i < n
      · simp [h', Nat.lt_succ_of_lt h']
      · have : ¬ i < n + 1 := by omega
        simp [h', this]

theorem getLsbD_putBit {w : Nat} (v : BitVec w) (i : Nat) (b : Bool) (j : Nat) :
    (putBit v i b).getLsbD j = if j = i then (decide (i < w) && b) else v.getLsbD j := by
  have h1 : ((1#w <<< i : BitVec w)).getLsbD j = (decide (i < w) && decide (j = i)) := by
    by_cases hw : i < w
    · by_cases hj : j = i
      · subst hj; simp [hw]
      · simp [BitVec.getLsbD_shiftLeft, hw, hj]; omega
    · by_cases hj : j < w
      · have : j < i := by omega
        simp [hw]; omega
      · simp [BitVec.getLsbD_of_ge _ j (by omega : w ≤ j), hw]
  by_cases hjw : j < w
  · cases b <;> simp only [putBit, if_true, Bool.false_eq_true, if_false, BitVec.getLsbD_or, BitVec.getLsbD_and,
      BitVec.getLsbD_not, h1, hjw, decide_true, Bool.true_and]
    · by_cases hj : j = i
      · subst hj; simp [hjw]
      · simp [hj]
    · by_cases hj : j = i
      · subst hj; simp [hjw]
      · simp [hj]
  · rw [BitVec.getLsbD_of_ge _ j (by omega : w ≤ j), BitVec.getLsbD_of_ge v j (by omega : w ≤ j)]
    split
    · rename_i hj; subst hj; simp [hjw]
    · rfl

/-! ### Where values go -/

/-- A continuation after a value has arrived: tasks before what was there, or one more local bound in it. -/
inductive Grown (c : List Task) : List Task → Prop where
  | pushed (ts : List Task) : Grown c (ts ++ c)
  | bound (x : Nat) (v : Value) : Grown c (bindScope x v c)

/-- `return v` changes nothing but the continuation. -/
theorem giveResult_eq (r : Ret) (v : Value) (s : State) :
    giveResult r v s = s.setCont (giveResult r v s).cpu.cont := by
  cases r with
  | loc x => rfl
  | drain => cases v <;> first | rfl | (rename_i o; cases o <;> rfl)

theorem giveResult_cont (r : Ret) (v : Value) (s : State) : Grown s.cpu.cont (giveResult r v s).cpu.cont := by
  cases r with
  | loc x => exact .bound x v
  | drain =>
    cases v with
    | optByte o =>
      cases o with
      | none => exact .pushed []
      | some c => exact .pushed _
    | _ => exact .pushed []

/-- What the value of a read does when it arrives: it changes the continuation and, where it ends a successful `mbox_call`,
`S.surface`; nothing else. -/
theorem deliver_spec (d : Dest) (v : Word) (s : State) :
    ∃ c x, deliver d v s = (s.setCont c).setSoft { s.soft with surface := x } ∧ Grown s.cpu.cont c ∧
      ((∀ r b w h z, d ≠ .mboxPitch r b w h z) → x = s.soft.surface) := by
  have push : ∀ ts : List Task, ∃ c x, s.push ts = (s.setCont c).setSoft { s.soft with surface := x } ∧
      Grown s.cpu.cont c ∧ ((∀ r b w h z, d ≠ .mboxPitch r b w h z) → x = s.soft.surface) :=
    fun ts => ⟨_, s.soft.surface, rfl, .pushed ts, fun _ => rfl⟩
  have give : ∀ (r : Ret) (v : Value), ∃ c x, giveResult r v s = (s.setCont c).setSoft { s.soft with surface := x } ∧
      Grown s.cpu.cont c ∧ ((∀ r b w h z, d ≠ .mboxPitch r b w h z) → x = s.soft.surface) :=
    fun r v => ⟨(giveResult r v s).cpu.cont, s.soft.surface, by rw [giveResult_eq]; rfl, giveResult_cont r v s, fun _ => rfl⟩
  cases d with
  | ret r => exact give _ _
  | ignore => exact push []
  | fselModify p f => exact push _
  | levelBit b r => exact give _ _
  | mboxOutStatus r => simp only [deliver]; split <;> exact push _
  | mboxInStatus r => simp only [deliver]; split <;> exact push _
  | mboxReply r => simp only [deliver]; split; exact push _; split; exact give _ _; exact push _
  | mboxCode r => simp only [deliver]; split; exact give _ _; exact push _
  | mboxBase r => simp only [deliver]; split; exact give _ _; exact push _
  | mboxWidth r b => exact push _
  | mboxHeight r b w => exact push _
  | mboxSize r b w h => exact push _
  | mboxPitch r b w h z =>
    refine ⟨(deliver (.mboxPitch r b w h z) v s).cpu.cont, some (mboxSurface b w h z v), ?_,
      giveResult_cont r (.mboxOk (mboxSurface b w h z v))
        (s.setSoft { s.soft with surface := some (mboxSurface b w h z v) }), fun hd => absurd rfl (hd r b w h z)⟩
    simp only [deliver]
    rw [giveResult_eq]
    rfl
  | now64Hi r => exact push _
  | now64Lo r hi => exact push _
  | now64Hi2 r hi lo => simp only [deliver]; split; exact give _ _; exact push _
  | sleepStart us => exact push _
  | sleepWrap start target => simp only [deliver]; split <;> exact push _
  | sleepUntil target => simp only [deliver]; split; exact push []; exact push _
  | armNow ms => exact push _
  | rearm => exact push _
  | irqPending1 => exact push _
  | irqPending2 p1 => exact push _
  | putcReady c => simp only [deliver]; split <;> exact push _
  | getcReady r => simp only [deliver]; split <;> exact push _
  | getcByte r => exact give _ _
  | getcNbFlag r => simp only [deliver]; split; exact give _ _; exact push _
  | getcNbByte r => exact give _ _

/-- The frame of `deliver`, field by field. -/
theorem deliver_frame (d : Dest) (v : Word) (s : State) :
    (deliver d v s).params = s.params ∧ (deliver d v s).gpio = s.gpio ∧ (deliver d v s).timer = s.timer ∧
      (deliver d v s).intc = s.intc ∧ (deliver d v s).mbox = s.mbox ∧ (deliver d v s).uart = s.uart ∧
      (deliver d v s).line = s.line ∧ (deliver d v s).mem = s.mem ∧ (deliver d v s).cyc = s.cyc ∧
      (deliver d v s).draws = s.draws ∧ (deliver d v s).sched = s.sched := by
  obtain ⟨c, x, h, -⟩ := deliver_spec d v s
  rw [h]
  exact ⟨rfl, rfl, rfl, rfl, rfl, rfl, rfl, rfl, rfl, rfl, rfl⟩

/-! ### Cost -/

/-- A CPU step costs at least one cycle (10 R104). -/
theorem retire_cyc_lt (n : Nat) (s : State) : s.cyc < (s.retire n).cyc := by
  show s.cyc < s.cyc + (max n 1 + _)
  omega

@[simp] theorem deliver_cyc (d : Dest) (v : Word) (s : State) : (deliver d v s).cyc = s.cyc := by
  obtain ⟨c, x, h, -⟩ := deliver_spec d v s
  rw [h]
  rfl

@[simp] theorem giveResult_cyc (r : Ret) (v : Value) (s : State) : (giveResult r v s).cyc = s.cyc := by
  rw [giveResult_eq]
  rfl

/-! ### Exceptions -/

/-- What taking an exception can do (60 R1012, R1020). -/
theorem takeException_spec {e : Exception} {s t : State} (h : takeException e s = .next t) :
    e = .irq ∧ s.cpu.vbarSet = true ∧
      t = (s.setCpu { s.cpu with
        saved := some s.cpu.cont, savedMask := s.cpu.irqMask, irqMask := true, ctx := .irq, cont := irqVector }).retire 1 := by
  cases e <;> simp only [takeException] at h <;> try cases h
  split at h
  · rename_i hv; cases h; exact ⟨rfl, hv, rfl⟩
  · cases h

/-- What the return from the exception can do (40 R425). -/
theorem returnException_spec {s t : State} (h : returnException s = .next t) :
    s.cpu.ctx = .irq ∧
      t = (s.setCpu { s.cpu with
        cont := s.cpu.saved.getD [], saved := none, irqMask := s.cpu.savedMask, ctx := .fg }).retire 1 := by
  simp only [returnException] at h
  split at h
  · rename_i hc; cases h; exact ⟨hc, rfl⟩
  · cases h

/-! ### RAM accesses -/

/-- The addresses that LDW and STW accept (40 R410). -/
theorem ramFault_none {s : State} {a : Nat} : ramFault s a = none ↔ a % 4 = 0 ∧ a < s.params.periphBase.toNat := by
  unfold ramFault
  split
  · simp_all
  · split <;> simp_all

/-- An accepted address has its word below 2^32. -/
theorem ramFault_bound {s : State} {a : Nat} (h : ramFault s a = none) : a + 3 < 4294967296 := by
  have h' := ramFault_none.1 h
  have := s.params.periphBase.isLt
  omega

/-! ### FIFOs of the UART -/

@[simp] theorem length_markLast (q : List RxEntry) : (markLast q).length = q.length := by
  induction q with
  | nil => rfl
  | cons e q ih => cases q <;> simp_all [markLast]

/-- A push never exceeds the capacity (45 R901, R961). -/
theorem rxPush_length {u : Uart} (e : RxEntry) (h : u.rxq.length ≤ u.cap) : (rxPush u e).rxq.length ≤ u.cap := by
  unfold rxPush
  split
  · simp [h]
  · simp only [List.length_append, List.length_singleton]; omega

/-- A push changes the receive FIFO, `U.rsr` and `U.ris` alone. -/
theorem rxPush_eq (u : Uart) (e : RxEntry) :
    rxPush u e = { u with rxq := (rxPush u e).rxq, rsr := (rxPush u e).rsr, ris := (rxPush u e).ris } := by
  unfold rxPush
  split <;> rfl

end Sys2Proof.Machine
end

