-- ==== Sys2Proof/Laws/Exec.lean ====
section
/-! SUPPORT. What an instruction can change outside the registers of its own block, said once for all of them: proofs about every step
cite `exec_moved` and do not take the 131 meanings apart again. -/

namespace Sys2Proof.Machine

open Sys2Proof

/-- The instruction `i` takes `s` to `t`: what it never changes, and what it can do to the execution context. -/
structure Moved (i : Instr) (s t : State) : Prop where
  params : t.params = s.params
  sched : t.sched = s.sched
  cnt : t.timer.cnt = s.timer.cnt
  tick : t.soft.tick = s.soft.tick
  line : t.line = s.line
  gpu : t.mbox.gpu = s.mbox.gpu
  cyc : s.cyc ≤ t.cyc
  icPhase : t.cpu.icPhase = s.cpu.icPhase
  vbar : s.cpu.vbarSet = true → t.cpu.vbarSet = true ∧ t.cpu.vbar = s.cpu.vbar
  context : i ≠ .iret → t.cpu.ctx = s.cpu.ctx ∧ t.cpu.saved = s.cpu.saved ∧ t.cpu.savedMask = s.cpu.savedMask ∧
    (s.cpu.ctx = .irq → s.cpu.irqMask = true → t.cpu.irqMask = true)

/-- A change of the continuation, the software words, GPIO, compare values and flags, enables, FIFOs or RAM. -/
theorem Moved.of {i : Instr} {s t : State} (hp : t.params = s.params) (hs : t.sched = s.sched)
    (hn : t.timer.cnt = s.timer.cnt) (ht : t.soft.tick = s.soft.tick) (hl : t.line = s.line)
    (hg : t.mbox.gpu = s.mbox.gpu) (hy : s.cyc ≤ t.cyc) (hc : t.cpu = { s.cpu with cont := t.cpu.cont }) :
    Moved i s t where
  params := hp
  sched := hs
  cnt := hn
  tick := ht
  line := hl
  gpu := hg
  cyc := hy
  icPhase := by rw [hc]
  vbar := fun h => by rw [hc]; exact ⟨h, rfl⟩
  context := fun _ => by rw [hc]; exact ⟨rfl, rfl, rfl, fun _ h => h⟩

theorem Moved.retire {i : Instr} {s t : State} (h : Moved i s t) (n : Nat) : Moved i s (t.retire n) :=
  { h with cyc := h.cyc.trans (Nat.le_add_right _ _) }

theorem Moved.deliver {i : Instr} {s t : State} (h : Moved i s t) (d : Dest) (v : Word) :
    Moved i s (deliver d v t) := by
  obtain ⟨c, x, hd, -⟩ := deliver_spec d v t
  rw [hd]
  exact ⟨h.params, h.sched, h.cnt, h.tick, h.line, h.gpu, h.cyc, h.icPhase, h.vbar, h.context⟩

theorem Moved.giveResult {i : Instr} {s t : State} (h : Moved i s t) (r : Ret) (v : Value) :
    Moved i s (giveResult r v t) := by
  rw [giveResult_eq]
  exact ⟨h.params, h.sched, h.cnt, h.tick, h.line, h.gpu, h.cyc, h.icPhase, h.vbar, h.context⟩

theorem Moved.refl (i : Instr) (s : State) : Moved i s s := .of rfl rfl rfl rfl rfl rfl (le_refl _) rfl
theorem Moved.push {i : Instr} {s : State} (ts : List Task) : Moved i s (s.push ts) :=
  .of rfl rfl rfl rfl rfl rfl (le_refl _) rfl
theorem Moved.setGpio {i : Instr} {s : State} (x : Gpio) : Moved i s (s.setGpio x) :=
  .of rfl rfl rfl rfl rfl rfl (le_refl _) rfl
theorem Moved.setTimer {i : Instr} {s : State} (x : Timer) (h : x.cnt = s.timer.cnt) : Moved i s (s.setTimer x) :=
  .of rfl rfl h rfl rfl rfl (le_refl _) rfl
theorem Moved.setIntc {i : Instr} {s : State} (x : Intc) : Moved i s (s.setIntc x) :=
  .of rfl rfl rfl rfl rfl rfl (le_refl _) rfl
theorem Moved.setMbox {i : Instr} {s : State} (x : Mailbox) (h : x.gpu = s.mbox.gpu) : Moved i s (s.setMbox x) :=
  .of rfl rfl rfl rfl rfl h (le_refl _) rfl
theorem Moved.setUart {i : Instr} {s : State} (x : Uart) : Moved i s (s.setUart x) :=
  .of rfl rfl rfl rfl rfl rfl (le_refl _) rfl
theorem Moved.setSoft {i : Instr} {s : State} (x : Soft) (h : x.tick = s.soft.tick) : Moved i s (s.setSoft x) :=
  .of rfl rfl rfl h rfl rfl (le_refl _) rfl
theorem Moved.putWord {i : Instr} {s : State} (a : Nat) (v : Word) : Moved i s (s.putWord a v) := by
  rw [State.putWord_eq]
  exact .of rfl rfl rfl rfl rfl rfl (le_refl _) rfl

/-- What every instruction that answers a next state can have changed. -/
theorem exec_moved {i : Instr} {s t : State} (h : exec i s = .next t) : Moved i s t := by
  cases i with
  | rd32Gpfsel0 d => cases h; exact ((Moved.refl _ s).retire 1).deliver _ _
  | rd32Gpfsel1 d => cases h; exact ((Moved.refl _ s).retire 1).deliver _ _
  | rd32Gpfsel2 d => cases h; exact ((Moved.refl _ s).retire 1).deliver _ _
  | rd32Gpfsel3 d => cases h; exact ((Moved.refl _ s).retire 1).deliver _ _
  | rd32Gpfsel4 d => cases h; exact ((Moved.refl _ s).retire 1).deliver _ _
  | rd32Gpfsel5 d => cases h; exact ((Moved.refl _ s).retire 1).deliver _ _
  | wr32Gpfsel0 v => cases h; exact (Moved.setGpio _).retire 1
  | wr32Gpfsel1 v => cases h; exact (Moved.setGpio _).retire 1
  | wr32Gpfsel2 v => cases h; exact (Moved.setGpio _).retire 1
  | wr32Gpfsel3 v => cases h; exact (Moved.setGpio _).retire 1
  | wr32Gpfsel4 v => cases h; exact (Moved.setGpio _).retire 1
  | wr32Gpfsel5 v => cases h; exact (Moved.setGpio _).retire 1
  | rd32Gppud d => cases h; exact ((Moved.refl _ s).retire 1).deliver _ _
  | wr32Gppud v =>
    simp only [exec, execWr32Gppud] at h
    split at h <;> cases h
    exact (Moved.setGpio _).retire 1
  | rd32Gppudclk0 d => cases h; exact ((Moved.refl _ s).retire 1).deliver _ _
  | rd32Gppudclk1 d => cases h; exact ((Moved.refl _ s).retire 1).deliver _ _
  | wr32Gppudclk0 v => cases h; exact (Moved.setGpio _).retire 1
  | wr32Gppudclk1 v => cases h; exact (Moved.setGpio _).retire 1
  | wr32Gpset0 v => cases h; exact (Moved.setGpio _).retire 1
  | wr32Gpset1 v => cases h; exact (Moved.setGpio _).retire 1
  | wr32Gpclr0 v => cases h; exact (Moved.setGpio _).retire 1
  | wr32Gpclr1 v => cases h; exact (Moved.setGpio _).retire 1
  | rd32Gplev0 d => cases h; exact ((Moved.refl _ s).retire 1).deliver _ _
  | rd32Gplev1 d => cases h; exact ((Moved.refl _ s).retire 1).deliver _ _
  | rd32Gpset0 d => cases h; exact ((Moved.refl _ s).retire 1).deliver _ _
  | rd32Gpset1 d => cases h; exact ((Moved.refl _ s).retire 1).deliver _ _
  | rd32Gpclr0 d => cases h; exact ((Moved.refl _ s).retire 1).deliver _ _
  | rd32Gpclr1 d => cases h; exact ((Moved.refl _ s).retire 1).deliver _ _
  | wr32Gplev0 v => cases h; exact (Moved.refl _ s).retire _
  | wr32Gplev1 v => cases h; exact (Moved.refl _ s).retire _
  | rd32StCs d => cases h; exact ((Moved.refl _ s).retire 1).deliver _ _
  | wr32StCs v => cases h; exact (Moved.setTimer _ (by exact rfl)).retire 1
  | rd32StClo d => cases h; exact ((Moved.refl _ s).retire 1).deliver _ _
  | rd32StChi d => cases h; exact ((Moved.refl _ s).retire 1).deliver _ _
  | rd32StC0 d => cases h; exact ((Moved.refl _ s).retire 1).deliver _ _
  | rd32StC1 d => cases h; exact ((Moved.refl _ s).retire 1).deliver _ _
  | rd32StC2 d => cases h; exact ((Moved.refl _ s).retire 1).deliver _ _
  | rd32StC3 d => cases h; exact ((Moved.refl _ s).retire 1).deliver _ _
  | wr32StC0 v => cases h; exact (Moved.setTimer _ (by exact rfl)).retire 1
  | wr32StC1 v => cases h; exact (Moved.setTimer _ (by exact rfl)).retire 1
  | wr32StC2 v => cases h; exact (Moved.setTimer _ (by exact rfl)).retire 1
  | wr32StC3 v => cases h; exact (Moved.setTimer _ (by exact rfl)).retire 1
  | wr32StClo v => cases h; exact (Moved.refl _ s).retire _
  | wr32StChi v => cases h; exact (Moved.refl _ s).retire _
  | rd32IrqBasicPending d => cases h; exact ((Moved.refl _ s).retire 1).deliver _ _
  | rd32IrqPending1 d => cases h; exact ((Moved.refl _ s).retire 1).deliver _ _
  | rd32IrqPending2 d => cases h; exact ((Moved.refl _ s).retire 1).deliver _ _
  | rd32FiqControl d => cases h; exact ((Moved.refl _ s).retire 1).deliver _ _
  | wr32FiqControl v =>
    simp only [exec, execWr32FiqControl] at h
    split at h <;> cases h
    exact (Moved.setIntc _).retire 1
  | rd32EnableIrqs1 d => cases h; exact ((Moved.refl _ s).retire 1).deliver _ _
  | wr32EnableIrqs1 v => cases h; exact (Moved.setIntc _).retire 1
  | rd32EnableIrqs2 d => cases h; exact ((Moved.refl _ s).retire 1).deliver _ _
  | wr32EnableIrqs2 v => cases h; exact (Moved.setIntc _).retire 1
  | rd32EnableBasic d => cases h; exact ((Moved.refl _ s).retire 1).deliver _ _
  | wr32EnableBasic v => cases h; exact (Moved.setIntc _).retire 1
  | rd32DisableIrqs1 d => cases h; exact ((Moved.refl _ s).retire 1).deliver _ _
  | wr32DisableIrqs1 v => cases h; exact (Moved.setIntc _).retire 1
  | rd32DisableIrqs2 d => cases h; exact ((Moved.refl _ s).retire 1).deliver _ _
  | wr32DisableIrqs2 v => cases h; exact (Moved.setIntc _).retire 1
  | rd32DisableBasic d => cases h; exact ((Moved.refl _ s).retire 1).deliver _ _
  | wr32DisableBasic v => cases h; exact (Moved.setIntc _).retire 1
  | wr32IrqBasicPending v => cases h; exact (Moved.refl _ s).retire _
  | wr32IrqPending1 v => cases h; exact (Moved.refl _ s).retire _
  | wr32IrqPending2 v => cases h; exact (Moved.refl _ s).retire _
  | rd32Mbox0Read d =>
    simp only [exec, execRd32Mbox0Read] at h
    split at h <;> cases h
    · exact ((Moved.refl _ s).retire 1).deliver _ _
    · exact ((Moved.setMbox _ (by exact rfl)).retire 1).deliver _ _
  | rd32Mbox0Peek d =>
    simp only [exec, execRd32Mbox0Peek] at h
    split at h <;> cases h
    · exact ((Moved.refl _ s).retire 1).deliver _ _
    · exact ((Moved.refl _ s).retire 1).deliver _ _
  | rd32Mbox0Status d => cases h; exact ((Moved.refl _ s).retire 1).deliver _ _
  | rd32Mbox1Status d => cases h; exact ((Moved.refl _ s).retire 1).deliver _ _
  | wr32Mbox1Write v =>
    simp only [exec, execWr32Mbox1Write] at h
    split at h <;> cases h
    exact (Moved.setMbox _ (by exact rfl)).retire 1
  | wr32Mbox0Read v => cases h; exact (Moved.refl _ s).retire _
  | wr32Mbox0Peek v => cases h; exact (Moved.refl _ s).retire _
  | wr32Mbox0Status v => cases h; exact (Moved.refl _ s).retire _
  | wr32Mbox1Status v => cases h; exact (Moved.refl _ s).retire _
  | rd32Mbox1Write d => cases h; exact ((Moved.refl _ s).retire 1).deliver _ _
  | rd32UartDr d =>
    simp only [exec, execRd32UartDr] at h
    split at h <;> cases h
    · exact ((Moved.refl _ s).retire 1).deliver _ _
    · exact ((Moved.setUart _).retire 1).deliver _ _
  | wr32UartDr v =>
    simp only [exec, execWr32UartDr] at h
    split at h <;> cases h
    exact (Moved.setUart _).retire 1
  | rd32UartRsrecr d => cases h; exact ((Moved.refl _ s).retire 1).deliver _ _
  | wr32UartRsrecr v => cases h; exact (Moved.setUart _).retire 1
  | rd32UartFr d => cases h; exact ((Moved.refl _ s).retire 1).deliver _ _
  | rd32UartIbrd d => cases h; exact ((Moved.refl _ s).retire 1).deliver _ _
  | wr32UartIbrd v => cases h; exact (Moved.setUart _).retire 1
  | rd32UartFbrd d => cases h; exact ((Moved.refl _ s).retire 1).deliver _ _
  | wr32UartFbrd v => cases h; exact (Moved.setUart _).retire 1
  | rd32UartLcrh d => cases h; exact ((Moved.refl _ s).retire 1).deliver _ _
  | wr32UartLcrh v => cases h; exact (Moved.setUart _).retire 1
  | rd32UartCr d => cases h; exact ((Moved.refl _ s).retire 1).deliver _ _
  | wr32UartCr v =>
    simp only [exec, execWr32UartCr] at h
    split at h <;> cases h
    exact (Moved.setUart _).retire 1
  | rd32UartIfls d => cases h; exact ((Moved.refl _ s).retire 1).deliver _ _
  | wr32UartIfls v =>
    simp only [exec, execWr32UartIfls] at h
    split at h <;> cases h
    exact (Moved.setUart _).retire 1
  | rd32UartImsc d => cases h; exact ((Moved.refl _ s).retire 1).deliver _ _
  | wr32UartImsc v => cases h; exact (Moved.setUart _).retire 1
  | rd32UartRis d => cases h; exact ((Moved.refl _ s).retire 1).deliver _ _
  | rd32UartMis d => cases h; exact ((Moved.refl _ s).retire 1).deliver _ _
  | wr32UartIcr v => cases h; exact (Moved.setUart _).retire 1
  | wr32UartFr v => cases h; exact (Moved.refl _ s).retire _
  | wr32UartRis v => cases h; exact (Moved.refl _ s).retire _
  | wr32UartMis v => cases h; exact (Moved.refl _ s).retire _
  | rd32UartIcr d => cases h; exact ((Moved.refl _ s).retire 1).deliver _ _
  | dmb => cases h; exact (Moved.refl _ s).retire _
  | setvbar a =>
    simp only [exec, execSetvbar] at h
    split at h <;> [cases h; (split at h <;> cases h)]
    rename_i hv _
    exact ⟨rfl, rfl, rfl, rfl, rfl, rfl, Nat.le_add_right _ _, rfl, fun h => absurd h hv, fun _ => ⟨rfl, rfl, rfl, fun _ h => h⟩⟩
  | cpsie =>
    simp only [exec, execCpsie] at h
    split at h <;> cases h
    rename_i hv
    exact ⟨rfl, rfl, rfl, rfl, rfl, rfl, Nat.le_add_right _ _, rfl, fun hv => ⟨hv, rfl⟩, fun _ => ⟨rfl, rfl, rfl, fun h => absurd h hv⟩⟩
  | cpsid =>
    cases h
    exact ⟨rfl, rfl, rfl, rfl, rfl, rfl, Nat.le_add_right _ _, rfl, fun hv => ⟨hv, rfl⟩, fun _ => ⟨rfl, rfl, rfl, fun _ _ => rfl⟩⟩
  | spin n => cases h; exact (Moved.refl _ s).retire _
  | iret =>
    obtain ⟨hc, rfl⟩ := returnException_spec h
    exact ⟨rfl, rfl, rfl, rfl, rfl, rfl, Nat.le_add_right _ _, rfl, fun hv => ⟨hv, rfl⟩, fun hi => absurd rfl hi⟩
  | ldw a d =>
    simp only [exec, execLdw] at h
    split at h <;> cases h
    exact ((Moved.refl _ s).retire 1).deliver _ _
  | stw a v =>
    simp only [exec, execStw] at h
    split at h <;> [cases h; (split at h <;> cases h)]
    exact (Moved.putWord _ _).retire 1
  | gpioSetFunction p f => cases h; exact Moved.push _
  | gpioSetOutput p level => cases h; exact Moved.push _
  | gpioGetInput p r =>
    simp only [exec, execGpioGetInput] at h
    split at h <;> cases h
    · exact (Moved.refl _ s).giveResult _ _
    · exact Moved.push _
  | gpioSetPull p mode => cases h; exact Moved.push _
  | mboxCall r => cases h; exact Moved.push _
  | getDisplaySurface r =>
    simp only [exec, execGetDisplaySurface] at h
    split at h <;> cases h
    exact (Moved.refl _ s).giveResult _ _
  | timerNowUs r => cases h; exact Moved.push _
  | timerNowUs64 r => cases h; exact Moved.push _
  | timerSleepUs us => cases h; exact Moved.push _
  | timerSleepMs ms => cases h; exact Moved.push _
  | timerArmPeriodic ms => cases h; exact Moved.push _
  | timerOnInterrupt => cases h; exact Moved.push _
  | ticksMs r => cases h; exact ((Moved.refl _ s).retire 1).giveResult _ _
  | irqInstall => cases h; exact Moved.push _
  | handleIrq => cases h; exact Moved.push _
  | uartDrain => cases h; exact Moved.push _
  | installInputHandler h => cases h; exact (Moved.setSoft _ (by exact rfl)).retire 1
  | uartInit baud =>
    simp only [exec, execUartInit] at h
    split at h <;> cases h
    exact Moved.push _
  | uartPutc c => cases h; exact Moved.push _
  | uartPuts bytes => cases h; exact Moved.push _
  | uartGetc r => cases h; exact Moved.push _
  | uartGetcNb r => cases h; exact Moved.push _
  | echo c => cases h; exact Moved.push _
  | uartPutdec v => cases h; exact Moved.push _
  | uartPuthex v => cases h; exact Moved.push _

/-! ### Cost -/

/-- A driver operation that is replaced by its expansion costs nothing (10 R102). -/
theorem exec_free {i : Instr} {s t : State} (hi : i.expands = true) (h : exec i s = .next t) : t.cyc = s.cyc := by
  cases i with
  | gpioGetInput p r =>
    simp only [exec, execGpioGetInput] at h
    split at h <;> cases h
    · exact giveResult_cyc _ _ _
    · rfl
  | getDisplaySurface r =>
    simp only [exec, execGetDisplaySurface] at h
    split at h <;> cases h
    exact giveResult_cyc _ _ _
  | uartInit baud =>
    simp only [exec, execUartInit] at h
    split at h <;> cases h
    rfl
  | gpioSetFunction | gpioSetOutput | gpioSetPull | mboxCall | timerNowUs | timerNowUs64 | timerSleepUs | timerSleepMs
  | timerArmPeriodic | timerOnInterrupt | irqInstall | handleIrq | uartDrain | uartPutc | uartPuts | uartGetc | uartGetcNb | echo
  | uartPutdec | uartPuthex => cases h; rfl
  | _ => exact absurd hi (by simp [Instr.expands, Instr.key, encode])

/-- Every other instruction costs at least one cycle (10 R104). -/
theorem exec_paid {i : Instr} {s t : State} (hi : i.expands = false) (h : exec i s = .next t) : s.cyc < t.cyc := by
  have read : ∀ (n : Nat) (d : Dest) (v : Word) (u : State), u.cyc = s.cyc → s.cyc < (deliver d v (u.retire n)).cyc :=
    fun n d v u hu => by rw [deliver_cyc, ← hu]; exact retire_cyc_lt n u
  have write : ∀ (n : Nat) (u : State), u.cyc = s.cyc → s.cyc < (u.retire n).cyc :=
    fun n u hu => by rw [← hu]; exact retire_cyc_lt n u
  cases i with
  | gpioGetInput | getDisplaySurface | uartInit | gpioSetFunction | gpioSetOutput | gpioSetPull | mboxCall | timerNowUs
  | timerNowUs64 | timerSleepUs | timerSleepMs | timerArmPeriodic | timerOnInterrupt | irqInstall | handleIrq | uartDrain | uartPutc
  | uartPuts | uartGetc | uartGetcNb | echo | uartPutdec | uartPuthex =>
    exact absurd hi (by simp [Instr.expands, Instr.key, encode])
  | ticksMs r => cases h; rw [giveResult_cyc]; exact write _ _ rfl
  | iret => obtain ⟨-, rfl⟩ := returnException_spec h; exact write _ _ rfl
  | stw a v =>
    simp only [exec, execStw] at h
    split at h <;> [cases h; (split at h <;> cases h)]
    exact write _ _ (State.putWord_cyc _ _ _)
  | setvbar a =>
    simp only [exec, execSetvbar] at h
    split at h <;> [cases h; (split at h <;> cases h)]
    exact write _ _ rfl
  | wr32Gppud v | wr32FiqControl v | wr32Mbox1Write v | wr32UartDr v | wr32UartCr v | wr32UartIfls v | cpsie =>
    simp only [exec, execWr32Gppud, execWr32FiqControl, execWr32Mbox1Write, execWr32UartDr, execWr32UartCr, execWr32UartIfls,
      execCpsie] at h
    split at h <;> cases h
    exact write _ _ rfl
  | rd32Mbox0Read d | rd32Mbox0Peek d | rd32UartDr d | ldw a d =>
    simp only [exec, execRd32Mbox0Read, execRd32Mbox0Peek, execRd32UartDr, execLdw] at h
    split at h <;> cases h <;> exact read _ _ _ _ rfl
  | rd32Gpfsel0 | rd32Gpfsel1 | rd32Gpfsel2 | rd32Gpfsel3 | rd32Gpfsel4 | rd32Gpfsel5 | rd32Gppud | rd32Gppudclk0
  | rd32Gppudclk1 | rd32Gplev0 | rd32Gplev1 | rd32Gpset0 | rd32Gpset1 | rd32Gpclr0 | rd32Gpclr1 | rd32StCs | rd32StClo
  | rd32StChi | rd32StC0 | rd32StC1 | rd32StC2 | rd32StC3 | rd32IrqBasicPending | rd32IrqPending1 | rd32IrqPending2
  | rd32FiqControl | rd32EnableIrqs1 | rd32EnableIrqs2 | rd32EnableBasic | rd32DisableIrqs1 | rd32DisableIrqs2
  | rd32DisableBasic | rd32Mbox0Status | rd32Mbox1Status | rd32Mbox1Write | rd32UartRsrecr | rd32UartFr | rd32UartIbrd
  | rd32UartFbrd | rd32UartLcrh | rd32UartCr | rd32UartIfls | rd32UartImsc | rd32UartRis | rd32UartMis | rd32UartIcr =>
    cases h; exact read 1 _ _ _ rfl
  | wr32Gpfsel0 | wr32Gpfsel1 | wr32Gpfsel2 | wr32Gpfsel3 | wr32Gpfsel4 | wr32Gpfsel5 =>
    cases h; exact write 1 (s.setGpio _) (State.setGpio_cyc _ _)
  | wr32Gppudclk0 | wr32Gppudclk1 | wr32Gpset0 | wr32Gpset1 | wr32Gpclr0 | wr32Gpclr1 | wr32Gplev0 | wr32Gplev1 | wr32StCs
  | wr32StC0 | wr32StC1 | wr32StC2 | wr32StC3 | wr32StClo | wr32StChi | wr32EnableIrqs1 | wr32EnableIrqs2 | wr32EnableBasic
  | wr32DisableIrqs1 | wr32DisableIrqs2 | wr32DisableBasic | wr32IrqBasicPending | wr32IrqPending1 | wr32IrqPending2
  | wr32Mbox0Read | wr32Mbox0Peek | wr32Mbox0Status | wr32Mbox1Status | wr32UartRsrecr | wr32UartIbrd | wr32UartFbrd
  | wr32UartLcrh | wr32UartImsc | wr32UartIcr | wr32UartFr | wr32UartRis | wr32UartMis | dmb | cpsid | spin
  | installInputHandler => cases h; exact write _ _ rfl

end Sys2Proof.Machine
end

