-- ==== Sys2Proof/Laws/Gpio.lean ====
section
/-! SUPPORT. The GPIO updates, field by field (41_gpio R502, R516): no proof unfolds one. -/

namespace Sys2Proof.Machine

open Sys2Proof

/-! ### FselWrite (R502) -/

/-- The function of a pin after a write of GPFSEL(k): the field of the value, if the pin is one of the register's. -/
theorem fselWrite_fsel (g : Gpio) (k : Nat) (v : Word) (p : Nat) (hp : p < 54) :
    (fselWrite g k v).fsel[p] = if p / 10 = k then v.extractLsb' (3 * (p % 10)) 3 else g.fsel[p] := by
  simp only [fselWrite, Vector.getElem_ofFn]
  rfl

@[simp] theorem fselWrite_out (g : Gpio) (k : Nat) (v : Word) : (fselWrite g k v).out = g.out := by
  simp only [fselWrite]

@[simp] theorem fselWrite_pudclk (g : Gpio) (k : Nat) (v : Word) : (fselWrite g k v).pudclk = g.pudclk := by
  simp only [fselWrite]

@[simp] theorem fselWrite_pull (g : Gpio) (k : Nat) (v : Word) : (fselWrite g k v).pull = g.pull := by
  simp only [fselWrite]

@[simp] theorem fselWrite_clkT (g : Gpio) (k : Nat) (v : Word) : (fselWrite g k v).clkT = g.clkT := by
  simp only [fselWrite]

@[simp] theorem fselWrite_cand (g : Gpio) (k : Nat) (v : Word) : (fselWrite g k v).cand = g.cand := by
  simp only [fselWrite]

@[simp] theorem fselWrite_pud (g : Gpio) (k : Nat) (v : Word) : (fselWrite g k v).pud = g.pud := by
  simp only [fselWrite]

@[simp] theorem fselWrite_pudT (g : Gpio) (k : Nat) (v : Word) : (fselWrite g k v).pudT = g.pudT := by
  simp only [fselWrite]

@[simp] theorem fselWrite_fselRsvd (g : Gpio) (k : Nat) (v : Word) : (fselWrite g k v).fselRsvd = g.fselRsvd := by
  simp only [fselWrite]

@[simp] theorem fselWrite_fselRsvd5 (g : Gpio) (k : Nat) (v : Word) : (fselWrite g k v).fselRsvd5 = g.fselRsvd5 := by
  simp only [fselWrite]

@[simp] theorem fselWrite_pudclkRsvd (g : Gpio) (k : Nat) (v : Word) : (fselWrite g k v).pudclkRsvd = g.pudclkRsvd := by
  simp only [fselWrite]

/-! ### Writes of GPPUD (R516 b, R517) -/

/-- The pull state of a pin after a write of GPPUD. -/
theorem pudWrite_pull (s : State) (mode : BitVec 2) (p : Nat) (hp : p < 54) :
    (pudWrite s mode).pull[p] =
      if mode ≠ s.gpio.pud ∧ breaksHold s ⟨p, hp⟩ = true then Pull.unknown else s.gpio.pull[p] := by
  simp only [pudWrite]
  by_cases h : mode = s.gpio.pud
  · simp [h]
  · by_cases hb : breaksHold s ⟨p, hp⟩ = true
    · simp [h, hb]
    · simp [h, hb]

@[simp] theorem pudWrite_pud (s : State) (mode : BitVec 2) : (pudWrite s mode).pud = mode := by
  simp only [pudWrite]

@[simp] theorem pudWrite_pudT (s : State) (mode : BitVec 2) : (pudWrite s mode).pudT = s.cyc := by
  simp only [pudWrite]

@[simp] theorem pudWrite_fsel (s : State) (mode : BitVec 2) : (pudWrite s mode).fsel = s.gpio.fsel := by
  simp only [pudWrite]

@[simp] theorem pudWrite_out (s : State) (mode : BitVec 2) : (pudWrite s mode).out = s.gpio.out := by
  simp only [pudWrite]

@[simp] theorem pudWrite_pudclk (s : State) (mode : BitVec 2) : (pudWrite s mode).pudclk = s.gpio.pudclk := by
  simp only [pudWrite]

@[simp] theorem pudWrite_clkT (s : State) (mode : BitVec 2) : (pudWrite s mode).clkT = s.gpio.clkT := by
  simp only [pudWrite]

@[simp] theorem pudWrite_cand (s : State) (mode : BitVec 2) : (pudWrite s mode).cand = s.gpio.cand := by
  simp only [pudWrite]

@[simp] theorem pudWrite_fselRsvd (s : State) (mode : BitVec 2) : (pudWrite s mode).fselRsvd = s.gpio.fselRsvd := by
  simp only [pudWrite]

@[simp] theorem pudWrite_fselRsvd5 (s : State) (mode : BitVec 2) : (pudWrite s mode).fselRsvd5 = s.gpio.fselRsvd5 := by
  simp only [pudWrite]

@[simp] theorem pudWrite_pudclkRsvd (s : State) (mode : BitVec 2) : (pudWrite s mode).pudclkRsvd = s.gpio.pudclkRsvd := by
  simp only [pudWrite]

/-! ### Writes of GPPUDCLK (R516 a, R521, R522) -/

theorem pudclkWrite_cand (s : State) (h : Nat) (v : Word) (p : Nat) (hp : p < 54) :
    (pudclkWrite s h v).cand[p] = if clockEdge s.gpio h v p then sampledPull s else s.gpio.cand[p] := by
  simp only [pudclkWrite, Vector.getElem_ofFn]
  rfl

theorem pudclkWrite_pull (s : State) (h : Nat) (v : Word) (p : Nat) (hp : p < 54) :
    (pudclkWrite s h v).pull[p] = if clockEdge s.gpio h v p then sampledPull s else s.gpio.pull[p] := by
  simp only [pudclkWrite, Vector.getElem_ofFn]
  rfl

theorem pudclkWrite_clkT (s : State) (h : Nat) (v : Word) (p : Nat) (hp : p < 54) :
    (pudclkWrite s h v).clkT[p] = if clockEdge s.gpio h v p then s.cyc else s.gpio.clkT[p] := by
  simp only [pudclkWrite, Vector.getElem_ofFn]
  rfl

theorem pudclkWrite_pudclk (s : State) (h : Nat) (v : Word) (p : Nat) (hp : p < 54) :
    (pudclkWrite s h v).pudclk.getLsbD p = if pinBank p = h then v.getLsbD (p % 32) else s.gpio.pudclk.getLsbD p := by
  simp only [pudclkWrite, getLsbD_ofBits, hp, decide_true, Bool.true_and]

@[simp] theorem pudclkWrite_fsel (s : State) (h : Nat) (v : Word) : (pudclkWrite s h v).fsel = s.gpio.fsel := by
  simp only [pudclkWrite]

@[simp] theorem pudclkWrite_out (s : State) (h : Nat) (v : Word) : (pudclkWrite s h v).out = s.gpio.out := by
  simp only [pudclkWrite]

@[simp] theorem pudclkWrite_pud (s : State) (h : Nat) (v : Word) : (pudclkWrite s h v).pud = s.gpio.pud := by
  simp only [pudclkWrite]

@[simp] theorem pudclkWrite_pudT (s : State) (h : Nat) (v : Word) : (pudclkWrite s h v).pudT = s.gpio.pudT := by
  simp only [pudclkWrite]

@[simp] theorem pudclkWrite_fselRsvd (s : State) (h : Nat) (v : Word) : (pudclkWrite s h v).fselRsvd = s.gpio.fselRsvd := by
  simp only [pudclkWrite]

@[simp] theorem pudclkWrite_fselRsvd5 (s : State) (h : Nat) (v : Word) : (pudclkWrite s h v).fselRsvd5 = s.gpio.fselRsvd5 := by
  simp only [pudclkWrite]

@[simp] theorem pudclkWrite_pudclkRsvd (s : State) (h : Nat) (v : Word) : (pudclkWrite s h v).pudclkRsvd = s.gpio.pudclkRsvd := by
  simp only [pudclkWrite]

/-! ### The continuation does not matter to them -/

@[simp] theorem pudWrite_setCont (s : State) (c : List Task) (mode : BitVec 2) :
    pudWrite (s.setCont c) mode = pudWrite s mode := by
  simp only [pudWrite, breaksHold, State.setCont_gpio, State.setCont_cyc]
  rfl

@[simp] theorem pudclkWrite_setCont (s : State) (c : List Task) (h : Nat) (v : Word) :
    pudclkWrite (s.setCont c) h v = pudclkWrite s h v := by
  simp only [pudclkWrite, sampledPull, State.setCont_gpio, State.setCont_cyc]
  rfl

end Sys2Proof.Machine
end

