-- ==== Sys2Proof/Laws/Invariant.lean ====
section
/-! SUPPORT. The shared operations keep the machine's invariant: one lemma per operation, for the proofs that go over all
instructions. -/

namespace Sys2Proof.Machine

open Sys2Proof

namespace Invariant

variable {s : State}

theorem setCont (h : Invariant s) (c : List Task) : Invariant (s.setCont c) :=
  ⟨h.mem, h.inq, h.outq, h.txq, h.rxq, h.saved, h.masked, h.savedMask, h.vbar, h.fiq, h.ris, h.pudT, h.clkT⟩

theorem push (h : Invariant s) (ts : List Task) : Invariant (s.push ts) := h.setCont _

theorem setSoft (h : Invariant s) (x : Soft) : Invariant (s.setSoft x) :=
  ⟨h.mem, h.inq, h.outq, h.txq, h.rxq, h.saved, h.masked, h.savedMask, h.vbar, h.fiq, h.ris, h.pudT, h.clkT⟩

theorem setTimer (h : Invariant s) (x : Timer) : Invariant (s.setTimer x) :=
  ⟨h.mem, h.inq, h.outq, h.txq, h.rxq, h.saved, h.masked, h.savedMask, h.vbar, h.fiq, h.ris, h.pudT, h.clkT⟩

theorem setLine (h : Invariant s) (x : Line) : Invariant (s.setLine x) :=
  ⟨h.mem, h.inq, h.outq, h.txq, h.rxq, h.saved, h.masked, h.savedMask, h.vbar, h.fiq, h.ris, h.pudT, h.clkT⟩

theorem setSched (h : Invariant s) (x : List Config.Turn) : Invariant (s.setSched x) :=
  ⟨h.mem, h.inq, h.outq, h.txq, h.rxq, h.saved, h.masked, h.savedMask, h.vbar, h.fiq, h.ris, h.pudT, h.clkT⟩

theorem skip (h : Invariant s) : Invariant s.skip :=
  ⟨h.mem, h.inq, h.outq, h.txq, h.rxq, h.saved, h.masked, h.savedMask, h.vbar, h.fiq, h.ris, h.pudT, h.clkT⟩

theorem retire (h : Invariant s) (n : Nat) : Invariant (s.retire n) :=
  ⟨h.mem, h.inq, h.outq, h.txq, h.rxq, h.saved, h.masked, h.savedMask, h.vbar, h.fiq, h.ris,
    h.pudT.trans (Nat.le_add_right _ _), fun p => (h.clkT p).trans (Nat.le_add_right _ _)⟩

theorem setMem (h : Invariant s) {m : Memory} (hm : m.wf s.params = true) : Invariant (s.setMem m) :=
  ⟨hm, h.inq, h.outq, h.txq, h.rxq, h.saved, h.masked, h.savedMask, h.vbar, h.fiq, h.ris, h.pudT, h.clkT⟩

theorem setIntc (h : Invariant s) {x : Intc} (hx : x.fiqc.getLsbD 7 = false) : Invariant (s.setIntc x) :=
  ⟨h.mem, h.inq, h.outq, h.txq, h.rxq, h.saved, h.masked, h.savedMask, h.vbar, hx, h.ris, h.pudT, h.clkT⟩

theorem setMbox (h : Invariant s) {x : Mailbox} (hi : x.inq.length ≤ s.params.mboxDepth)
    (ho : x.outq.length ≤ s.params.mboxDepth) : Invariant (s.setMbox x) :=
  ⟨h.mem, hi, ho, h.txq, h.rxq, h.saved, h.masked, h.savedMask, h.vbar, h.fiq, h.ris, h.pudT, h.clkT⟩

theorem setUart (h : Invariant s) {x : Uart} (ht : x.txq.length ≤ x.cap) (hr : x.rxq.length ≤ x.cap)
    (hi : x.ris &&& 0b1101#11 = 0#11) : Invariant (s.setUart x) :=
  ⟨h.mem, h.inq, h.outq, ht, hr, h.saved, h.masked, h.savedMask, h.vbar, h.fiq, hi, h.pudT, h.clkT⟩

theorem setGpio (h : Invariant s) {x : Gpio} (hp : x.pudT ≤ s.cyc) (hc : ∀ p : Fin 54, x.clkT[p] ≤ s.cyc) :
    Invariant (s.setGpio x) :=
  ⟨h.mem, h.inq, h.outq, h.txq, h.rxq, h.saved, h.masked, h.savedMask, h.vbar, h.fiq, h.ris, hp, hc⟩

theorem setCpu (h : Invariant s) {x : Cpu} (hs : x.saved.isSome = decide (x.ctx = .irq))
    (hm : x.ctx = .irq → x.irqMask = true) (hsm : x.savedMask = false) (hv : x.vbarSet = true → x.vbar.toNat % 32 = 0) : Invariant (s.setCpu x) :=
  ⟨h.mem, h.inq, h.outq, h.txq, h.rxq, hs, hm, hsm, hv, h.fiq, h.ris, h.pudT, h.clkT⟩

theorem deliver (h : Invariant s) (d : Dest) (v : Word) : Invariant (deliver d v s) := by
  obtain ⟨c, x, he, -⟩ := deliver_spec d v s
  rw [he]
  exact (h.setCont c).setSoft _

theorem giveResult (h : Invariant s) (r : Ret) (v : Value) : Invariant (giveResult r v s) := by
  rw [giveResult_eq]
  exact h.setCont _

theorem putWord (h : Invariant s) {a : Nat} (v : Word) (ha : a + 3 < 4294967296) : Invariant (s.putWord a v) := by
  rw [State.putWord_eq]
  exact h.setMem (State.wf_putWord v ha h.mem)

theorem gpuWrites (h : Invariant s) (base : Nat) (words : List (Nat × Word)) : Invariant (gpuWrites base words s) := by
  rw [gpuWrites_eq]
  exact h.setMem (wf_gpuWrites base words s h.mem)

end Invariant

end Sys2Proof.Machine
end

