-- ==== Sys2Proof/Laws/PerInstr.lean ====
section
/-! SUPPORT. What is proved of every instruction, one lemma per constructor: its key matches one row of the opcode table, its own. -/

namespace Sys2Proof.Laws.KeyInTable

open Sys2Proof

/-- A row of the opcode table: mnemonic, match and mask (30_encoding R302). -/
structure Row where
  mnemonic : String
  bits : Word
  mask : Word

/-- Rows 0 to 21. -/
def rows0 : List Row :=
  [⟨"RD32_GPFSEL0", 0x00200000#32, 0xFFFFFFFF#32⟩,
   ⟨"RD32_GPFSEL1", 0x00200004#32, 0xFFFFFFFF#32⟩,
   ⟨"RD32_GPFSEL2", 0x00200008#32, 0xFFFFFFFF#32⟩,
   ⟨"RD32_GPFSEL3", 0x0020000C#32, 0xFFFFFFFF#32⟩,
   ⟨"RD32_GPFSEL4", 0x00200010#32, 0xFFFFFFFF#32⟩,
   ⟨"RD32_GPFSEL5", 0x00200014#32, 0xFFFFFFFF#32⟩,
   ⟨"WR32_GPFSEL0", 0x01200000#32, 0xFFFFFFFF#32⟩,
   ⟨"WR32_GPFSEL1", 0x01200004#32, 0xFFFFFFFF#32⟩,
   ⟨"WR32_GPFSEL2", 0x01200008#32, 0xFFFFFFFF#32⟩,
   ⟨"WR32_GPFSEL3", 0x0120000C#32, 0xFFFFFFFF#32⟩,
   ⟨"WR32_GPFSEL4", 0x01200010#32, 0xFFFFFFFF#32⟩,
   ⟨"WR32_GPFSEL5", 0x01200014#32, 0xFFFFFFFF#32⟩,
   ⟨"RD32_GPPUD", 0x00200094#32, 0xFFFFFFFF#32⟩,
   ⟨"WR32_GPPUD", 0x01200094#32, 0xFFFFFFFF#32⟩,
   ⟨"RD32_GPPUDCLK0", 0x00200098#32, 0xFFFFFFFF#32⟩,
   ⟨"RD32_GPPUDCLK1", 0x0020009C#32, 0xFFFFFFFF#32⟩,
   ⟨"WR32_GPPUDCLK0", 0x01200098#32, 0xFFFFFFFF#32⟩,
   ⟨"WR32_GPPUDCLK1", 0x0120009C#32, 0xFFFFFFFF#32⟩,
   ⟨"WR32_GPSET0", 0x0120001C#32, 0xFFFFFFFF#32⟩,
   ⟨"WR32_GPSET1", 0x01200020#32, 0xFFFFFFFF#32⟩,
   ⟨"WR32_GPCLR0", 0x01200028#32, 0xFFFFFFFF#32⟩,
   ⟨"WR32_GPCLR1", 0x0120002C#32, 0xFFFFFFFF#32⟩]

/-- Rows 22 to 43. -/
def rows1 : List Row :=
  [⟨"RD32_GPLEV0", 0x00200034#32, 0xFFFFFFFF#32⟩,
   ⟨"RD32_GPLEV1", 0x00200038#32, 0xFFFFFFFF#32⟩,
   ⟨"RD32_GPSET0", 0x0020001C#32, 0xFFFFFFFF#32⟩,
   ⟨"RD32_GPSET1", 0x00200020#32, 0xFFFFFFFF#32⟩,
   ⟨"RD32_GPCLR0", 0x00200028#32, 0xFFFFFFFF#32⟩,
   ⟨"RD32_GPCLR1", 0x0020002C#32, 0xFFFFFFFF#32⟩,
   ⟨"WR32_GPLEV0", 0x01200034#32, 0xFFFFFFFF#32⟩,
   ⟨"WR32_GPLEV1", 0x01200038#32, 0xFFFFFFFF#32⟩,
   ⟨"RD32_ST_CS", 0x00003000#32, 0xFFFFFFFF#32⟩,
   ⟨"WR32_ST_CS", 0x01003000#32, 0xFFFFFFFF#32⟩,
   ⟨"RD32_ST_CLO", 0x00003004#32, 0xFFFFFFFF#32⟩,
   ⟨"RD32_ST_CHI", 0x00003008#32, 0xFFFFFFFF#32⟩,
   ⟨"RD32_ST_C0", 0x0000300C#32, 0xFFFFFFFF#32⟩,
   ⟨"RD32_ST_C1", 0x00003010#32, 0xFFFFFFFF#32⟩,
   ⟨"RD32_ST_C2", 0x00003014#32, 0xFFFFFFFF#32⟩,
   ⟨"RD32_ST_C3", 0x00003018#32, 0xFFFFFFFF#32⟩,
   ⟨"WR32_ST_C0", 0x0100300C#32, 0xFFFFFFFF#32⟩,
   ⟨"WR32_ST_C1", 0x01003010#32, 0xFFFFFFFF#32⟩,
   ⟨"WR32_ST_C2", 0x01003014#32, 0xFFFFFFFF#32⟩,
   ⟨"WR32_ST_C3", 0x01003018#32, 0xFFFFFFFF#32⟩,
   ⟨"WR32_ST_CLO", 0x01003004#32, 0xFFFFFFFF#32⟩,
   ⟨"WR32_ST_CHI", 0x01003008#32, 0xFFFFFFFF#32⟩]

/-- Rows 44 to 65. -/
def rows2 : List Row :=
  [⟨"RD32_IRQ_BASIC_PENDING", 0x0000B200#32, 0xFFFFFFFF#32⟩,
   ⟨"RD32_IRQ_PENDING1", 0x0000B204#32, 0xFFFFFFFF#32⟩,
   ⟨"RD32_IRQ_PENDING2", 0x0000B208#32, 0xFFFFFFFF#32⟩,
   ⟨"RD32_FIQ_CONTROL", 0x0000B20C#32, 0xFFFFFFFF#32⟩,
   ⟨"WR32_FIQ_CONTROL", 0x0100B20C#32, 0xFFFFFFFF#32⟩,
   ⟨"RD32_ENABLE_IRQS1", 0x0000B210#32, 0xFFFFFFFF#32⟩,
   ⟨"WR32_ENABLE_IRQS1", 0x0100B210#32, 0xFFFFFFFF#32⟩,
   ⟨"RD32_ENABLE_IRQS2", 0x0000B214#32, 0xFFFFFFFF#32⟩,
   ⟨"WR32_ENABLE_IRQS2", 0x0100B214#32, 0xFFFFFFFF#32⟩,
   ⟨"RD32_ENABLE_BASIC", 0x0000B218#32, 0xFFFFFFFF#32⟩,
   ⟨"WR32_ENABLE_BASIC", 0x0100B218#32, 0xFFFFFFFF#32⟩,
   ⟨"RD32_DISABLE_IRQS1", 0x0000B21C#32, 0xFFFFFFFF#32⟩,
   ⟨"WR32_DISABLE_IRQS1", 0x0100B21C#32, 0xFFFFFFFF#32⟩,
   ⟨"RD32_DISABLE_IRQS2", 0x0000B220#32, 0xFFFFFFFF#32⟩,
   ⟨"WR32_DISABLE_IRQS2", 0x0100B220#32, 0xFFFFFFFF#32⟩,
   ⟨"RD32_DISABLE_BASIC", 0x0000B224#32, 0xFFFFFFFF#32⟩,
   ⟨"WR32_DISABLE_BASIC", 0x0100B224#32, 0xFFFFFFFF#32⟩,
   ⟨"WR32_IRQ_BASIC_PENDING", 0x0100B200#32, 0xFFFFFFFF#32⟩,
   ⟨"WR32_IRQ_PENDING1", 0x0100B204#32, 0xFFFFFFFF#32⟩,
   ⟨"WR32_IRQ_PENDING2", 0x0100B208#32, 0xFFFFFFFF#32⟩,
   ⟨"RD32_MBOX0_READ", 0x0000B880#32, 0xFFFFFFFF#32⟩,
   ⟨"RD32_MBOX0_PEEK", 0x0000B890#32, 0xFFFFFFFF#32⟩]

/-- Rows 66 to 87. -/
def rows3 : List Row :=
  [⟨"RD32_MBOX0_STATUS", 0x0000B898#32, 0xFFFFFFFF#32⟩,
   ⟨"RD32_MBOX1_STATUS", 0x0000B8B8#32, 0xFFFFFFFF#32⟩,
   ⟨"WR32_MBOX1_WRITE", 0x0100B8A0#32, 0xFFFFFFFF#32⟩,
   ⟨"WR32_MBOX0_READ", 0x0100B880#32, 0xFFFFFFFF#32⟩,
   ⟨"WR32_MBOX0_PEEK", 0x0100B890#32, 0xFFFFFFFF#32⟩,
   ⟨"WR32_MBOX0_STATUS", 0x0100B898#32, 0xFFFFFFFF#32⟩,
   ⟨"WR32_MBOX1_STATUS", 0x0100B8B8#32, 0xFFFFFFFF#32⟩,
   ⟨"RD32_MBOX1_WRITE", 0x0000B8A0#32, 0xFFFFFFFF#32⟩,
   ⟨"RD32_UART_DR", 0x00201000#32, 0xFFFFFFFF#32⟩,
   ⟨"WR32_UART_DR", 0x01201000#32, 0xFFFFFFFF#32⟩,
   ⟨"RD32_UART_RSRECR", 0x00201004#32, 0xFFFFFFFF#32⟩,
   ⟨"WR32_UART_RSRECR", 0x01201004#32, 0xFFFFFFFF#32⟩,
   ⟨"RD32_UART_FR", 0x00201018#32, 0xFFFFFFFF#32⟩,
   ⟨"RD32_UART_IBRD", 0x00201024#32, 0xFFFFFFFF#32⟩,
   ⟨"WR32_UART_IBRD", 0x01201024#32, 0xFFFFFFFF#32⟩,
   ⟨"RD32_UART_FBRD", 0x00201028#32, 0xFFFFFFFF#32⟩,
   ⟨"WR32_UART_FBRD", 0x01201028#32, 0xFFFFFFFF#32⟩,
   ⟨"RD32_UART_LCRH", 0x0020102C#32, 0xFFFFFFFF#32⟩,
   ⟨"WR32_UART_LCRH", 0x0120102C#32, 0xFFFFFFFF#32⟩,
   ⟨"RD32_UART_CR", 0x00201030#32, 0xFFFFFFFF#32⟩,
   ⟨"WR32_UART_CR", 0x01201030#32, 0xFFFFFFFF#32⟩,
   ⟨"RD32_UART_IFLS", 0x00201034#32, 0xFFFFFFFF#32⟩]

/-- Rows 88 to 109. -/
def rows4 : List Row :=
  [⟨"WR32_UART_IFLS", 0x01201034#32, 0xFFFFFFFF#32⟩,
   ⟨"RD32_UART_IMSC", 0x00201038#32, 0xFFFFFFFF#32⟩,
   ⟨"WR32_UART_IMSC", 0x01201038#32, 0xFFFFFFFF#32⟩,
   ⟨"RD32_UART_RIS", 0x0020103C#32, 0xFFFFFFFF#32⟩,
   ⟨"RD32_UART_MIS", 0x00201040#32, 0xFFFFFFFF#32⟩,
   ⟨"WR32_UART_ICR", 0x01201044#32, 0xFFFFFFFF#32⟩,
   ⟨"WR32_UART_FR", 0x01201018#32, 0xFFFFFFFF#32⟩,
   ⟨"WR32_UART_RIS", 0x0120103C#32, 0xFFFFFFFF#32⟩,
   ⟨"WR32_UART_MIS", 0x01201040#32, 0xFFFFFFFF#32⟩,
   ⟨"RD32_UART_ICR", 0x00201044#32, 0xFFFFFFFF#32⟩,
   ⟨"DMB", 0x80000100#32, 0xFFFFFF00#32⟩,
   ⟨"SETVBAR", 0x80000200#32, 0xFFFFFF00#32⟩,
   ⟨"CPSIE", 0x80000300#32, 0xFFFFFF00#32⟩,
   ⟨"CPSID", 0x80000400#32, 0xFFFFFF00#32⟩,
   ⟨"SPIN", 0x80000500#32, 0xFFFFFF00#32⟩,
   ⟨"IRET", 0x80000600#32, 0xFFFFFF00#32⟩,
   ⟨"LDW", 0x80000700#32, 0xFFFFFF00#32⟩,
   ⟨"STW", 0x80000800#32, 0xFFFFFF00#32⟩,
   ⟨"gpio_set_function", 0x40001000#32, 0xFFFFFF00#32⟩,
   ⟨"gpio_set_output", 0x40001100#32, 0xFFFFFF00#32⟩,
   ⟨"gpio_get_input", 0x40001200#32, 0xFFFFFF00#32⟩,
   ⟨"gpio_set_pull", 0x40001300#32, 0xFFFFFF00#32⟩]

/-- Rows 110 to 130. -/
def rows5 : List Row :=
  [⟨"mbox_call", 0x40002000#32, 0xFFFFFF00#32⟩,
   ⟨"get_display_surface", 0x40002100#32, 0xFFFFFF00#32⟩,
   ⟨"timer_now_us", 0x40003000#32, 0xFFFFFF00#32⟩,
   ⟨"timer_now_us64", 0x40003100#32, 0xFFFFFF00#32⟩,
   ⟨"timer_sleep_us", 0x40003200#32, 0xFFFFFF00#32⟩,
   ⟨"timer_sleep_ms", 0x40003300#32, 0xFFFFFF00#32⟩,
   ⟨"timer_arm_periodic", 0x40003400#32, 0xFFFFFF00#32⟩,
   ⟨"timer_on_interrupt", 0x40003500#32, 0xFFFFFF00#32⟩,
   ⟨"ticks_ms", 0x40003600#32, 0xFFFFFF00#32⟩,
   ⟨"irq_install", 0x40004000#32, 0xFFFFFF00#32⟩,
   ⟨"handle_irq", 0x40004100#32, 0xFFFFFF00#32⟩,
   ⟨"uart_drain", 0x40004200#32, 0xFFFFFF00#32⟩,
   ⟨"install_input_handler", 0x40004300#32, 0xFFFFFF00#32⟩,
   ⟨"uart_init", 0x40005000#32, 0xFFFFFF00#32⟩,
   ⟨"uart_putc", 0x40005100#32, 0xFFFFFF00#32⟩,
   ⟨"uart_puts", 0x40005200#32, 0xFFFFFF00#32⟩,
   ⟨"uart_getc", 0x40005300#32, 0xFFFFFF00#32⟩,
   ⟨"uart_getc_nb", 0x40005400#32, 0xFFFFFF00#32⟩,
   ⟨"echo", 0x40005500#32, 0xFFFFFF00#32⟩,
   ⟨"uart_putdec", 0x40005600#32, 0xFFFFFF00#32⟩,
   ⟨"uart_puthex", 0x40005700#32, 0xFFFFFF00#32⟩]

/-- The opcode table. -/
def rows : List Row := rows0 ++ rows1 ++ rows2 ++ rows3 ++ rows4 ++ rows5

/-- The mnemonic of an instruction. -/
def mnemonic : Instr → String
  | .rd32Gpfsel0 _ => "RD32_GPFSEL0"
  | .rd32Gpfsel1 _ => "RD32_GPFSEL1"
  | .rd32Gpfsel2 _ => "RD32_GPFSEL2"
  | .rd32Gpfsel3 _ => "RD32_GPFSEL3"
  | .rd32Gpfsel4 _ => "RD32_GPFSEL4"
  | .rd32Gpfsel5 _ => "RD32_GPFSEL5"
  | .wr32Gpfsel0 _ => "WR32_GPFSEL0"
  | .wr32Gpfsel1 _ => "WR32_GPFSEL1"
  | .wr32Gpfsel2 _ => "WR32_GPFSEL2"
  | .wr32Gpfsel3 _ => "WR32_GPFSEL3"
  | .wr32Gpfsel4 _ => "WR32_GPFSEL4"
  | .wr32Gpfsel5 _ => "WR32_GPFSEL5"
  | .rd32Gppud _ => "RD32_GPPUD"
  | .wr32Gppud _ => "WR32_GPPUD"
  | .rd32Gppudclk0 _ => "RD32_GPPUDCLK0"
  | .rd32Gppudclk1 _ => "RD32_GPPUDCLK1"
  | .wr32Gppudclk0 _ => "WR32_GPPUDCLK0"
  | .wr32Gppudclk1 _ => "WR32_GPPUDCLK1"
  | .wr32Gpset0 _ => "WR32_GPSET0"
  | .wr32Gpset1 _ => "WR32_GPSET1"
  | .wr32Gpclr0 _ => "WR32_GPCLR0"
  | .wr32Gpclr1 _ => "WR32_GPCLR1"
  | .rd32Gplev0 _ => "RD32_GPLEV0"
  | .rd32Gplev1 _ => "RD32_GPLEV1"
  | .rd32Gpset0 _ => "RD32_GPSET0"
  | .rd32Gpset1 _ => "RD32_GPSET1"
  | .rd32Gpclr0 _ => "RD32_GPCLR0"
  | .rd32Gpclr1 _ => "RD32_GPCLR1"
  | .wr32Gplev0 _ => "WR32_GPLEV0"
  | .wr32Gplev1 _ => "WR32_GPLEV1"
  | .rd32StCs _ => "RD32_ST_CS"
  | .wr32StCs _ => "WR32_ST_CS"
  | .rd32StClo _ => "RD32_ST_CLO"
  | .rd32StChi _ => "RD32_ST_CHI"
  | .rd32StC0 _ => "RD32_ST_C0"
  | .rd32StC1 _ => "RD32_ST_C1"
  | .rd32StC2 _ => "RD32_ST_C2"
  | .rd32StC3 _ => "RD32_ST_C3"
  | .wr32StC0 _ => "WR32_ST_C0"
  | .wr32StC1 _ => "WR32_ST_C1"
  | .wr32StC2 _ => "WR32_ST_C2"
  | .wr32StC3 _ => "WR32_ST_C3"
  | .wr32StClo _ => "WR32_ST_CLO"
  | .wr32StChi _ => "WR32_ST_CHI"
  | .rd32IrqBasicPending _ => "RD32_IRQ_BASIC_PENDING"
  | .rd32IrqPending1 _ => "RD32_IRQ_PENDING1"
  | .rd32IrqPending2 _ => "RD32_IRQ_PENDING2"
  | .rd32FiqControl _ => "RD32_FIQ_CONTROL"
  | .wr32FiqControl _ => "WR32_FIQ_CONTROL"
  | .rd32EnableIrqs1 _ => "RD32_ENABLE_IRQS1"
  | .wr32EnableIrqs1 _ => "WR32_ENABLE_IRQS1"
  | .rd32EnableIrqs2 _ => "RD32_ENABLE_IRQS2"
  | .wr32EnableIrqs2 _ => "WR32_ENABLE_IRQS2"
  | .rd32EnableBasic _ => "RD32_ENABLE_BASIC"
  | .wr32EnableBasic _ => "WR32_ENABLE_BASIC"
  | .rd32DisableIrqs1 _ => "RD32_DISABLE_IRQS1"
  | .wr32DisableIrqs1 _ => "WR32_DISABLE_IRQS1"
  | .rd32DisableIrqs2 _ => "RD32_DISABLE_IRQS2"
  | .wr32DisableIrqs2 _ => "WR32_DISABLE_IRQS2"
  | .rd32DisableBasic _ => "RD32_DISABLE_BASIC"
  | .wr32DisableBasic _ => "WR32_DISABLE_BASIC"
  | .wr32IrqBasicPending _ => "WR32_IRQ_BASIC_PENDING"
  | .wr32IrqPending1 _ => "WR32_IRQ_PENDING1"
  | .wr32IrqPending2 _ => "WR32_IRQ_PENDING2"
  | .rd32Mbox0Read _ => "RD32_MBOX0_READ"
  | .rd32Mbox0Peek _ => "RD32_MBOX0_PEEK"
  | .rd32Mbox0Status _ => "RD32_MBOX0_STATUS"
  | .rd32Mbox1Status _ => "RD32_MBOX1_STATUS"
  | .wr32Mbox1Write _ => "WR32_MBOX1_WRITE"
  | .wr32Mbox0Read _ => "WR32_MBOX0_READ"
  | .wr32Mbox0Peek _ => "WR32_MBOX0_PEEK"
  | .wr32Mbox0Status _ => "WR32_MBOX0_STATUS"
  | .wr32Mbox1Status _ => "WR32_MBOX1_STATUS"
  | .rd32Mbox1Write _ => "RD32_MBOX1_WRITE"
  | .rd32UartDr _ => "RD32_UART_DR"
  | .wr32UartDr _ => "WR32_UART_DR"
  | .rd32UartRsrecr _ => "RD32_UART_RSRECR"
  | .wr32UartRsrecr _ => "WR32_UART_RSRECR"
  | .rd32UartFr _ => "RD32_UART_FR"
  | .rd32UartIbrd _ => "RD32_UART_IBRD"
  | .wr32UartIbrd _ => "WR32_UART_IBRD"
  | .rd32UartFbrd _ => "RD32_UART_FBRD"
  | .wr32UartFbrd _ => "WR32_UART_FBRD"
  | .rd32UartLcrh _ => "RD32_UART_LCRH"
  | .wr32UartLcrh _ => "WR32_UART_LCRH"
  | .rd32UartCr _ => "RD32_UART_CR"
  | .wr32UartCr _ => "WR32_UART_CR"
  | .rd32UartIfls _ => "RD32_UART_IFLS"
  | .wr32UartIfls _ => "WR32_UART_IFLS"
  | .rd32UartImsc _ => "RD32_UART_IMSC"
  | .wr32UartImsc _ => "WR32_UART_IMSC"
  | .rd32UartRis _ => "RD32_UART_RIS"
  | .rd32UartMis _ => "RD32_UART_MIS"
  | .wr32UartIcr _ => "WR32_UART_ICR"
  | .wr32UartFr _ => "WR32_UART_FR"
  | .wr32UartRis _ => "WR32_UART_RIS"
  | .wr32UartMis _ => "WR32_UART_MIS"
  | .rd32UartIcr _ => "RD32_UART_ICR"
  | .dmb => "DMB"
  | .setvbar _ => "SETVBAR"
  | .cpsie => "CPSIE"
  | .cpsid => "CPSID"
  | .spin _ => "SPIN"
  | .iret => "IRET"
  | .ldw _ _ => "LDW"
  | .stw _ _ => "STW"
  | .gpioSetFunction _ _ => "gpio_set_function"
  | .gpioSetOutput _ _ => "gpio_set_output"
  | .gpioGetInput _ _ => "gpio_get_input"
  | .gpioSetPull _ _ => "gpio_set_pull"
  | .mboxCall _ => "mbox_call"
  | .getDisplaySurface _ => "get_display_surface"
  | .timerNowUs _ => "timer_now_us"
  | .timerNowUs64 _ => "timer_now_us64"
  | .timerSleepUs _ => "timer_sleep_us"
  | .timerSleepMs _ => "timer_sleep_ms"
  | .timerArmPeriodic _ => "timer_arm_periodic"
  | .timerOnInterrupt => "timer_on_interrupt"
  | .ticksMs _ => "ticks_ms"
  | .irqInstall => "irq_install"
  | .handleIrq => "handle_irq"
  | .uartDrain => "uart_drain"
  | .installInputHandler _ => "install_input_handler"
  | .uartInit _ => "uart_init"
  | .uartPutc _ => "uart_putc"
  | .uartPuts _ => "uart_puts"
  | .uartGetc _ => "uart_getc"
  | .uartGetcNb _ => "uart_getc_nb"
  | .echo _ => "echo"
  | .uartPutdec _ => "uart_putdec"
  | .uartPuthex _ => "uart_puthex"

/-- The mnemonics of the rows that a key matches. -/
def matching (key : Word) : List String := (rows.filter fun r => key &&& r.mask == r.bits).map Row.mnemonic

/-- The key of `i` matches exactly one row, the row of its mnemonic. -/
def Statement (i : Instr) : Prop := matching i.key = [mnemonic i]

theorem rd32Gpfsel0 (d : Dest) : Statement (.rd32Gpfsel0 d) := by
  show matching 0x00200000#32 = ["RD32_GPFSEL0"]
  decide
theorem rd32Gpfsel1 (d : Dest) : Statement (.rd32Gpfsel1 d) := by
  show matching 0x00200004#32 = ["RD32_GPFSEL1"]
  decide
theorem rd32Gpfsel2 (d : Dest) : Statement (.rd32Gpfsel2 d) := by
  show matching 0x00200008#32 = ["RD32_GPFSEL2"]
  decide
theorem rd32Gpfsel3 (d : Dest) : Statement (.rd32Gpfsel3 d) := by
  show matching 0x0020000C#32 = ["RD32_GPFSEL3"]
  decide
theorem rd32Gpfsel4 (d : Dest) : Statement (.rd32Gpfsel4 d) := by
  show matching 0x00200010#32 = ["RD32_GPFSEL4"]
  decide
theorem rd32Gpfsel5 (d : Dest) : Statement (.rd32Gpfsel5 d) := by
  show matching 0x00200014#32 = ["RD32_GPFSEL5"]
  decide
theorem wr32Gpfsel0 (v : Expr) : Statement (.wr32Gpfsel0 v) := by
  show matching 0x01200000#32 = ["WR32_GPFSEL0"]
  decide
theorem wr32Gpfsel1 (v : Expr) : Statement (.wr32Gpfsel1 v) := by
  show matching 0x01200004#32 = ["WR32_GPFSEL1"]
  decide
theorem wr32Gpfsel2 (v : Expr) : Statement (.wr32Gpfsel2 v) := by
  show matching 0x01200008#32 = ["WR32_GPFSEL2"]
  decide
theorem wr32Gpfsel3 (v : Expr) : Statement (.wr32Gpfsel3 v) := by
  show matching 0x0120000C#32 = ["WR32_GPFSEL3"]
  decide
theorem wr32Gpfsel4 (v : Expr) : Statement (.wr32Gpfsel4 v) := by
  show matching 0x01200010#32 = ["WR32_GPFSEL4"]
  decide
theorem wr32Gpfsel5 (v : Expr) : Statement (.wr32Gpfsel5 v) := by
  show matching 0x01200014#32 = ["WR32_GPFSEL5"]
  decide
theorem rd32Gppud (d : Dest) : Statement (.rd32Gppud d) := by
  show matching 0x00200094#32 = ["RD32_GPPUD"]
  decide
theorem wr32Gppud (v : Expr) : Statement (.wr32Gppud v) := by
  show matching 0x01200094#32 = ["WR32_GPPUD"]
  decide
theorem rd32Gppudclk0 (d : Dest) : Statement (.rd32Gppudclk0 d) := by
  show matching 0x00200098#32 = ["RD32_GPPUDCLK0"]
  decide
theorem rd32Gppudclk1 (d : Dest) : Statement (.rd32Gppudclk1 d) := by
  show matching 0x0020009C#32 = ["RD32_GPPUDCLK1"]
  decide
theorem wr32Gppudclk0 (v : Expr) : Statement (.wr32Gppudclk0 v) := by
  show matching 0x01200098#32 = ["WR32_GPPUDCLK0"]
  decide
theorem wr32Gppudclk1 (v : Expr) : Statement (.wr32Gppudclk1 v) := by
  show matching 0x0120009C#32 = ["WR32_GPPUDCLK1"]
  decide
theorem wr32Gpset0 (v : Expr) : Statement (.wr32Gpset0 v) := by
  show matching 0x0120001C#32 = ["WR32_GPSET0"]
  decide
theorem wr32Gpset1 (v : Expr) : Statement (.wr32Gpset1 v) := by
  show matching 0x01200020#32 = ["WR32_GPSET1"]
  decide
theorem wr32Gpclr0 (v : Expr) : Statement (.wr32Gpclr0 v) := by
  show matching 0x01200028#32 = ["WR32_GPCLR0"]
  decide
theorem wr32Gpclr1 (v : Expr) : Statement (.wr32Gpclr1 v) := by
  show matching 0x0120002C#32 = ["WR32_GPCLR1"]
  decide
theorem rd32Gplev0 (d : Dest) : Statement (.rd32Gplev0 d) := by
  show matching 0x00200034#32 = ["RD32_GPLEV0"]
  decide
theorem rd32Gplev1 (d : Dest) : Statement (.rd32Gplev1 d) := by
  show matching 0x00200038#32 = ["RD32_GPLEV1"]
  decide
theorem rd32Gpset0 (d : Dest) : Statement (.rd32Gpset0 d) := by
  show matching 0x0020001C#32 = ["RD32_GPSET0"]
  decide
theorem rd32Gpset1 (d : Dest) : Statement (.rd32Gpset1 d) := by
  show matching 0x00200020#32 = ["RD32_GPSET1"]
  decide
theorem rd32Gpclr0 (d : Dest) : Statement (.rd32Gpclr0 d) := by
  show matching 0x00200028#32 = ["RD32_GPCLR0"]
  decide
theorem rd32Gpclr1 (d : Dest) : Statement (.rd32Gpclr1 d) := by
  show matching 0x0020002C#32 = ["RD32_GPCLR1"]
  decide
theorem wr32Gplev0 (v : Expr) : Statement (.wr32Gplev0 v) := by
  show matching 0x01200034#32 = ["WR32_GPLEV0"]
  decide
theorem wr32Gplev1 (v : Expr) : Statement (.wr32Gplev1 v) := by
  show matching 0x01200038#32 = ["WR32_GPLEV1"]
  decide
theorem rd32StCs (d : Dest) : Statement (.rd32StCs d) := by
  show matching 0x00003000#32 = ["RD32_ST_CS"]
  decide
theorem wr32StCs (v : Expr) : Statement (.wr32StCs v) := by
  show matching 0x01003000#32 = ["WR32_ST_CS"]
  decide
theorem rd32StClo (d : Dest) : Statement (.rd32StClo d) := by
  show matching 0x00003004#32 = ["RD32_ST_CLO"]
  decide
theorem rd32StChi (d : Dest) : Statement (.rd32StChi d) := by
  show matching 0x00003008#32 = ["RD32_ST_CHI"]
  decide
theorem rd32StC0 (d : Dest) : Statement (.rd32StC0 d) := by
  show matching 0x0000300C#32 = ["RD32_ST_C0"]
  decide
theorem rd32StC1 (d : Dest) : Statement (.rd32StC1 d) := by
  show matching 0x00003010#32 = ["RD32_ST_C1"]
  decide
theorem rd32StC2 (d : Dest) : Statement (.rd32StC2 d) := by
  show matching 0x00003014#32 = ["RD32_ST_C2"]
  decide
theorem rd32StC3 (d : Dest) : Statement (.rd32StC3 d) := by
  show matching 0x00003018#32 = ["RD32_ST_C3"]
  decide
theorem wr32StC0 (v : Expr) : Statement (.wr32StC0 v) := by
  show matching 0x0100300C#32 = ["WR32_ST_C0"]
  decide
theorem wr32StC1 (v : Expr) : Statement (.wr32StC1 v) := by
  show matching 0x01003010#32 = ["WR32_ST_C1"]
  decide
theorem wr32StC2 (v : Expr) : Statement (.wr32StC2 v) := by
  show matching 0x01003014#32 = ["WR32_ST_C2"]
  decide
theorem wr32StC3 (v : Expr) : Statement (.wr32StC3 v) := by
  show matching 0x01003018#32 = ["WR32_ST_C3"]
  decide
theorem wr32StClo (v : Expr) : Statement (.wr32StClo v) := by
  show matching 0x01003004#32 = ["WR32_ST_CLO"]
  decide
theorem wr32StChi (v : Expr) : Statement (.wr32StChi v) := by
  show matching 0x01003008#32 = ["WR32_ST_CHI"]
  decide
theorem rd32IrqBasicPending (d : Dest) : Statement (.rd32IrqBasicPending d) := by
  show matching 0x0000B200#32 = ["RD32_IRQ_BASIC_PENDING"]
  decide
theorem rd32IrqPending1 (d : Dest) : Statement (.rd32IrqPending1 d) := by
  show matching 0x0000B204#32 = ["RD32_IRQ_PENDING1"]
  decide
theorem rd32IrqPending2 (d : Dest) : Statement (.rd32IrqPending2 d) := by
  show matching 0x0000B208#32 = ["RD32_IRQ_PENDING2"]
  decide
theorem rd32FiqControl (d : Dest) : Statement (.rd32FiqControl d) := by
  show matching 0x0000B20C#32 = ["RD32_FIQ_CONTROL"]
  decide
theorem wr32FiqControl (v : Expr) : Statement (.wr32FiqControl v) := by
  show matching 0x0100B20C#32 = ["WR32_FIQ_CONTROL"]
  decide
theorem rd32EnableIrqs1 (d : Dest) : Statement (.rd32EnableIrqs1 d) := by
  show matching 0x0000B210#32 = ["RD32_ENABLE_IRQS1"]
  decide
theorem wr32EnableIrqs1 (v : Expr) : Statement (.wr32EnableIrqs1 v) := by
  show matching 0x0100B210#32 = ["WR32_ENABLE_IRQS1"]
  decide
theorem rd32EnableIrqs2 (d : Dest) : Statement (.rd32EnableIrqs2 d) := by
  show matching 0x0000B214#32 = ["RD32_ENABLE_IRQS2"]
  decide
theorem wr32EnableIrqs2 (v : Expr) : Statement (.wr32EnableIrqs2 v) := by
  show matching 0x0100B214#32 = ["WR32_ENABLE_IRQS2"]
  decide
theorem rd32EnableBasic (d : Dest) : Statement (.rd32EnableBasic d) := by
  show matching 0x0000B218#32 = ["RD32_ENABLE_BASIC"]
  decide
theorem wr32EnableBasic (v : Expr) : Statement (.wr32EnableBasic v) := by
  show matching 0x0100B218#32 = ["WR32_ENABLE_BASIC"]
  decide
theorem rd32DisableIrqs1 (d : Dest) : Statement (.rd32DisableIrqs1 d) := by
  show matching 0x0000B21C#32 = ["RD32_DISABLE_IRQS1"]
  decide
theorem wr32DisableIrqs1 (v : Expr) : Statement (.wr32DisableIrqs1 v) := by
  show matching 0x0100B21C#32 = ["WR32_DISABLE_IRQS1"]
  decide
theorem rd32DisableIrqs2 (d : Dest) : Statement (.rd32DisableIrqs2 d) := by
  show matching 0x0000B220#32 = ["RD32_DISABLE_IRQS2"]
  decide
theorem wr32DisableIrqs2 (v : Expr) : Statement (.wr32DisableIrqs2 v) := by
  show matching 0x0100B220#32 = ["WR32_DISABLE_IRQS2"]
  decide
theorem rd32DisableBasic (d : Dest) : Statement (.rd32DisableBasic d) := by
  show matching 0x0000B224#32 = ["RD32_DISABLE_BASIC"]
  decide
theorem wr32DisableBasic (v : Expr) : Statement (.wr32DisableBasic v) := by
  show matching 0x0100B224#32 = ["WR32_DISABLE_BASIC"]
  decide
theorem wr32IrqBasicPending (v : Expr) : Statement (.wr32IrqBasicPending v) := by
  show matching 0x0100B200#32 = ["WR32_IRQ_BASIC_PENDING"]
  decide
theorem wr32IrqPending1 (v : Expr) : Statement (.wr32IrqPending1 v) := by
  show matching 0x0100B204#32 = ["WR32_IRQ_PENDING1"]
  decide
theorem wr32IrqPending2 (v : Expr) : Statement (.wr32IrqPending2 v) := by
  show matching 0x0100B208#32 = ["WR32_IRQ_PENDING2"]
  decide
theorem rd32Mbox0Read (d : Dest) : Statement (.rd32Mbox0Read d) := by
  show matching 0x0000B880#32 = ["RD32_MBOX0_READ"]
  decide
theorem rd32Mbox0Peek (d : Dest) : Statement (.rd32Mbox0Peek d) := by
  show matching 0x0000B890#32 = ["RD32_MBOX0_PEEK"]
  decide
theorem rd32Mbox0Status (d : Dest) : Statement (.rd32Mbox0Status d) := by
  show matching 0x0000B898#32 = ["RD32_MBOX0_STATUS"]
  decide
theorem rd32Mbox1Status (d : Dest) : Statement (.rd32Mbox1Status d) := by
  show matching 0x0000B8B8#32 = ["RD32_MBOX1_STATUS"]
  decide
theorem wr32Mbox1Write (v : Expr) : Statement (.wr32Mbox1Write v) := by
  show matching 0x0100B8A0#32 = ["WR32_MBOX1_WRITE"]
  decide
theorem wr32Mbox0Read (v : Expr) : Statement (.wr32Mbox0Read v) := by
  show matching 0x0100B880#32 = ["WR32_MBOX0_READ"]
  decide
theorem wr32Mbox0Peek (v : Expr) : Statement (.wr32Mbox0Peek v) := by
  show matching 0x0100B890#32 = ["WR32_MBOX0_PEEK"]
  decide
theorem wr32Mbox0Status (v : Expr) : Statement (.wr32Mbox0Status v) := by
  show matching 0x0100B898#32 = ["WR32_MBOX0_STATUS"]
  decide
theorem wr32Mbox1Status (v : Expr) : Statement (.wr32Mbox1Status v) := by
  show matching 0x0100B8B8#32 = ["WR32_MBOX1_STATUS"]
  decide
theorem rd32Mbox1Write (d : Dest) : Statement (.rd32Mbox1Write d) := by
  show matching 0x0000B8A0#32 = ["RD32_MBOX1_WRITE"]
  decide
theorem rd32UartDr (d : Dest) : Statement (.rd32UartDr d) := by
  show matching 0x00201000#32 = ["RD32_UART_DR"]
  decide
theorem wr32UartDr (v : Expr) : Statement (.wr32UartDr v) := by
  show matching 0x01201000#32 = ["WR32_UART_DR"]
  decide
theorem rd32UartRsrecr (d : Dest) : Statement (.rd32UartRsrecr d) := by
  show matching 0x00201004#32 = ["RD32_UART_RSRECR"]
  decide
theorem wr32UartRsrecr (v : Expr) : Statement (.wr32UartRsrecr v) := by
  show matching 0x01201004#32 = ["WR32_UART_RSRECR"]
  decide
theorem rd32UartFr (d : Dest) : Statement (.rd32UartFr d) := by
  show matching 0x00201018#32 = ["RD32_UART_FR"]
  decide
theorem rd32UartIbrd (d : Dest) : Statement (.rd32UartIbrd d) := by
  show matching 0x00201024#32 = ["RD32_UART_IBRD"]
  decide
theorem wr32UartIbrd (v : Expr) : Statement (.wr32UartIbrd v) := by
  show matching 0x01201024#32 = ["WR32_UART_IBRD"]
  decide
theorem rd32UartFbrd (d : Dest) : Statement (.rd32UartFbrd d) := by
  show matching 0x00201028#32 = ["RD32_UART_FBRD"]
  decide
theorem wr32UartFbrd (v : Expr) : Statement (.wr32UartFbrd v) := by
  show matching 0x01201028#32 = ["WR32_UART_FBRD"]
  decide
theorem rd32UartLcrh (d : Dest) : Statement (.rd32UartLcrh d) := by
  show matching 0x0020102C#32 = ["RD32_UART_LCRH"]
  decide
theorem wr32UartLcrh (v : Expr) : Statement (.wr32UartLcrh v) := by
  show matching 0x0120102C#32 = ["WR32_UART_LCRH"]
  decide
theorem rd32UartCr (d : Dest) : Statement (.rd32UartCr d) := by
  show matching 0x00201030#32 = ["RD32_UART_CR"]
  decide
theorem wr32UartCr (v : Expr) : Statement (.wr32UartCr v) := by
  show matching 0x01201030#32 = ["WR32_UART_CR"]
  decide
theorem rd32UartIfls (d : Dest) : Statement (.rd32UartIfls d) := by
  show matching 0x00201034#32 = ["RD32_UART_IFLS"]
  decide
theorem wr32UartIfls (v : Expr) : Statement (.wr32UartIfls v) := by
  show matching 0x01201034#32 = ["WR32_UART_IFLS"]
  decide
theorem rd32UartImsc (d : Dest) : Statement (.rd32UartImsc d) := by
  show matching 0x00201038#32 = ["RD32_UART_IMSC"]
  decide
theorem wr32UartImsc (v : Expr) : Statement (.wr32UartImsc v) := by
  show matching 0x01201038#32 = ["WR32_UART_IMSC"]
  decide
theorem rd32UartRis (d : Dest) : Statement (.rd32UartRis d) := by
  show matching 0x0020103C#32 = ["RD32_UART_RIS"]
  decide
theorem rd32UartMis (d : Dest) : Statement (.rd32UartMis d) := by
  show matching 0x00201040#32 = ["RD32_UART_MIS"]
  decide
theorem wr32UartIcr (v : Expr) : Statement (.wr32UartIcr v) := by
  show matching 0x01201044#32 = ["WR32_UART_ICR"]
  decide
theorem wr32UartFr (v : Expr) : Statement (.wr32UartFr v) := by
  show matching 0x01201018#32 = ["WR32_UART_FR"]
  decide
theorem wr32UartRis (v : Expr) : Statement (.wr32UartRis v) := by
  show matching 0x0120103C#32 = ["WR32_UART_RIS"]
  decide
theorem wr32UartMis (v : Expr) : Statement (.wr32UartMis v) := by
  show matching 0x01201040#32 = ["WR32_UART_MIS"]
  decide
theorem rd32UartIcr (d : Dest) : Statement (.rd32UartIcr d) := by
  show matching 0x00201044#32 = ["RD32_UART_ICR"]
  decide
theorem dmb : Statement (.dmb) := by
  show matching 0x80000100#32 = ["DMB"]
  decide
theorem setvbar (a : Expr) : Statement (.setvbar a) := by
  show matching 0x80000200#32 = ["SETVBAR"]
  decide
theorem cpsie : Statement (.cpsie) := by
  show matching 0x80000300#32 = ["CPSIE"]
  decide
theorem cpsid : Statement (.cpsid) := by
  show matching 0x80000400#32 = ["CPSID"]
  decide
theorem spin (n : Nat) : Statement (.spin n) := by
  show matching 0x80000500#32 = ["SPIN"]
  decide
theorem iret : Statement (.iret) := by
  show matching 0x80000600#32 = ["IRET"]
  decide
theorem ldw (a : Expr) (d : Dest) : Statement (.ldw a d) := by
  show matching 0x80000700#32 = ["LDW"]
  decide
theorem stw (a v : Expr) : Statement (.stw a v) := by
  show matching 0x80000800#32 = ["STW"]
  decide
theorem gpioSetFunction (p f : Nat) : Statement (.gpioSetFunction p f) := by
  show matching 0x40001000#32 = ["gpio_set_function"]
  decide
theorem gpioSetOutput (p : Nat) (level : Expr) : Statement (.gpioSetOutput p level) := by
  show matching 0x40001100#32 = ["gpio_set_output"]
  decide
theorem gpioGetInput (p : Nat) (r : Ret) : Statement (.gpioGetInput p r) := by
  show matching 0x40001200#32 = ["gpio_get_input"]
  decide
theorem gpioSetPull (p mode : Nat) : Statement (.gpioSetPull p mode) := by
  show matching 0x40001300#32 = ["gpio_set_pull"]
  decide
theorem mboxCall (r : Ret) : Statement (.mboxCall r) := by
  show matching 0x40002000#32 = ["mbox_call"]
  decide
theorem getDisplaySurface (r : Ret) : Statement (.getDisplaySurface r) := by
  show matching 0x40002100#32 = ["get_display_surface"]
  decide
theorem timerNowUs (r : Ret) : Statement (.timerNowUs r) := by
  show matching 0x40003000#32 = ["timer_now_us"]
  decide
theorem timerNowUs64 (r : Ret) : Statement (.timerNowUs64 r) := by
  show matching 0x40003100#32 = ["timer_now_us64"]
  decide
theorem timerSleepUs (us : Expr) : Statement (.timerSleepUs us) := by
  show matching 0x40003200#32 = ["timer_sleep_us"]
  decide
theorem timerSleepMs (ms : Expr) : Statement (.timerSleepMs ms) := by
  show matching 0x40003300#32 = ["timer_sleep_ms"]
  decide
theorem timerArmPeriodic (ms : Expr) : Statement (.timerArmPeriodic ms) := by
  show matching 0x40003400#32 = ["timer_arm_periodic"]
  decide
theorem timerOnInterrupt : Statement (.timerOnInterrupt) := by
  show matching 0x40003500#32 = ["timer_on_interrupt"]
  decide
theorem ticksMs (r : Ret) : Statement (.ticksMs r) := by
  show matching 0x40003600#32 = ["ticks_ms"]
  decide
theorem irqInstall : Statement (.irqInstall) := by
  show matching 0x40004000#32 = ["irq_install"]
  decide
theorem handleIrq : Statement (.handleIrq) := by
  show matching 0x40004100#32 = ["handle_irq"]
  decide
theorem uartDrain : Statement (.uartDrain) := by
  show matching 0x40004200#32 = ["uart_drain"]
  decide
theorem installInputHandler (h : Handler) : Statement (.installInputHandler h) := by
  show matching 0x40004300#32 = ["install_input_handler"]
  decide
theorem uartInit (baud : Option Expr) : Statement (.uartInit baud) := by
  show matching 0x40005000#32 = ["uart_init"]
  decide
theorem uartPutc (c : Expr) : Statement (.uartPutc c) := by
  show matching 0x40005100#32 = ["uart_putc"]
  decide
theorem uartPuts (bytes : List Byte) : Statement (.uartPuts bytes) := by
  show matching 0x40005200#32 = ["uart_puts"]
  decide
theorem uartGetc (r : Ret) : Statement (.uartGetc r) := by
  show matching 0x40005300#32 = ["uart_getc"]
  decide
theorem uartGetcNb (r : Ret) : Statement (.uartGetcNb r) := by
  show matching 0x40005400#32 = ["uart_getc_nb"]
  decide
theorem echo (c : Expr) : Statement (.echo c) := by
  show matching 0x40005500#32 = ["echo"]
  decide
theorem uartPutdec (v : Expr) : Statement (.uartPutdec v) := by
  show matching 0x40005600#32 = ["uart_putdec"]
  decide
theorem uartPuthex (v : Expr) : Statement (.uartPuthex v) := by
  show matching 0x40005700#32 = ["uart_puthex"]
  decide

end Sys2Proof.Laws.KeyInTable
end

