-- ==== Sys2Proof/Laws/Step.lean ====
section
/-! SUPPORT. What one step of the machine can do, said once: proofs about every step take these cases and do not unfold the step. -/

namespace Sys2Proof.Machine

open Sys2Proof

/-! ### The CPU's program -/

/-- What a step of the CPU's program can do: nothing is left; an instruction runs, of text or of an expansion; text ends; or one
of the three steps that are no instruction runs. -/
theorem cpuStep_cases {s t : State} (h : cpuStep s = .next t) :
    (s.cpu.cont = [] ∧ t = s.skip) ∨
    ∃ tk ts, s.cpu.cont = tk :: ts ∧
      ((∃ i rest, tk.fetch = some (i, rest) ∧ exec i (s.setCont (rest ++ ts)) = .next t) ∨
        ((∃ env, tk = .code [] env) ∧ t = s.setCont ts) ∨
        (tk = .tickStep ∧ t = ((s.setCont ts).setSoft { s.soft with tick := s.soft.tick + 1#32 }).retire 1) ∨
        (tk = .uartInitStep ∧ t = ((s.setCont ts).setSoft { s.soft with uartInitialized := true }).retire 1) ∨
        (tk = .cpsieArm ∧ s.cpu.ctx = .fg ∧
          t = ((s.setCont ts).setCpu { s.cpu with cont := ts, irqMask := false, icPhase := .armed }).retire 1)) := by
  unfold cpuStep at h
  split at h
  · rename_i hc; cases h; exact .inl ⟨hc, rfl⟩
  · rename_i tk ts hc
    refine .inr ⟨tk, ts, hc, ?_⟩
    cases tk with
    | op i => exact .inl ⟨i, [], rfl, h⟩
    | code ws env =>
      cases ws with
      | nil => cases h; exact .inr (.inl ⟨⟨env, rfl⟩, rfl⟩)
      | cons w ws =>
        simp only [runTask] at h
        split at h
        · rename_i i rest hd
          exact .inl ⟨i, [.code rest env], by simp only [Task.fetch, hd], h⟩
        · cases h
    | tickStep => cases h; exact .inr (.inr (.inl ⟨rfl, rfl⟩))
    | uartInitStep => cases h; exact .inr (.inr (.inr (.inl ⟨rfl, rfl⟩)))
    | cpsieArm =>
      refine .inr (.inr (.inr (.inr ⟨rfl, ?_⟩)))
      simp only [runTask, runCpsieArm, execCpsie] at h
      by_cases hx : (s.setCont ts).cpu.ctx = .irq
      · rw [if_pos hx] at h; cases h
      · rw [if_neg hx] at h
        cases h
        refine ⟨?_, rfl⟩
        cases hc : s.cpu.ctx with
        | fg => rfl
        | irq => exact absurd hc hx

/-! ### The other agents -/

/-- The step of an agent other than the CPU changes nothing of the CPU's side. -/
theorem agentEffect_frame (a : Config.Turn) (s : State) :
    (agentEffect a s).params = s.params ∧ (agentEffect a s).cpu = s.cpu ∧ (agentEffect a s).soft = s.soft ∧
      (agentEffect a s).gpio = s.gpio ∧ (agentEffect a s).intc = s.intc ∧ (agentEffect a s).cyc = s.cyc ∧
      (agentEffect a s).draws = s.draws ∧ (agentEffect a s).sched = s.sched := by
  cases a with
  | uartTx g =>
    simp only [agentEffect, uartTxStep]
    split
    · exact ⟨rfl, rfl, rfl, rfl, rfl, rfl, rfl, rfl⟩
    · split
      · split
        · split <;> exact ⟨rfl, rfl, rfl, rfl, rfl, rfl, rfl, rfl⟩
        · split <;> exact ⟨rfl, rfl, rfl, rfl, rfl, rfl, rfl, rfl⟩
      · exact ⟨rfl, rfl, rfl, rfl, rfl, rfl, rfl, rfl⟩
  | uartRx good bad fe pe be =>
    simp only [agentEffect, uartRxStep]
    split
    · split <;> exact ⟨rfl, rfl, rfl, rfl, rfl, rfl, rfl, rfl⟩
    · exact ⟨rfl, rfl, rfl, rfl, rfl, rfl, rfl, rfl⟩
  | uartTimeout => simp only [agentEffect, uartTimeoutStep]; split <;> exact ⟨rfl, rfl, rfl, rfl, rfl, rfl, rfl, rfl⟩
  | gpuTake => simp only [agentEffect, gpuTake]; split <;> exact ⟨rfl, rfl, rfl, rfl, rfl, rfl, rfl, rfl⟩
  | gpuRespond words r =>
    simp only [agentEffect, gpuRespond]
    split
    · split
      · rw [gpuWrites_eq]; exact ⟨rfl, rfl, rfl, rfl, rfl, rfl, rfl, rfl⟩
      · exact ⟨rfl, rfl, rfl, rfl, rfl, rfl, rfl, rfl⟩
    · exact ⟨rfl, rfl, rfl, rfl, rfl, rfl, rfl, rfl⟩
  | gpuSpurious r => simp only [agentEffect, gpuSpurious]; split <;> exact ⟨rfl, rfl, rfl, rfl, rfl, rfl, rfl, rfl⟩
  | _ => exact ⟨rfl, rfl, rfl, rfl, rfl, rfl, rfl, rfl⟩

/-- What an agent can do to the serial line (45 R960, R961): nothing; or a byte is sent, on a good line or on a bad one; or a byte is
received on a bad one. -/
theorem agentEffect_line (a : Config.Turn) (s : State) :
    (agentEffect a s).line = s.line ∨
      (∃ g b rest, a = .uartTx g ∧ s.uart.txq = b :: rest ∧ s.uart.enabled = true ∧ s.uart.txEnabled = true ∧
        s.uart.loopback = false ∧ (agentEffect a s).line =
          if lineOkTx s then { s.line with tx := s.line.tx ++ [b] } else { tx := s.line.tx ++ g, garbled := true }) ∨
      (∃ good bad fe pe be, a = .uartRx good bad fe pe be ∧ s.uart.enabled = true ∧ s.uart.rxEnabled = true ∧
        s.uart.loopback = false ∧ lineOkRx s = false ∧ (agentEffect a s).line = { s.line with garbled := true }) := by
  cases a with
  | uartTx g =>
    simp only [agentEffect, uartTxStep]
    split
    · exact .inl rfl
    · rename_i b rest hq
      split
      · rename_i he
        simp only [Bool.and_eq_true] at he
        split
        · split <;> exact .inl rfl
        · rename_i hl
          refine .inr (.inl ⟨g, b, rest, rfl, hq, he.1, he.2, by simpa using hl, ?_⟩)
          split <;> rfl
      · exact .inl rfl
  | uartRx good bad fe pe be =>
    simp only [agentEffect, uartRxStep]
    split
    · rename_i he
      simp only [Bool.and_eq_true, Bool.not_eq_true'] at he
      split
      · exact .inl rfl
      · rename_i hl
        exact .inr (.inr ⟨good, bad, fe, pe, be, rfl, he.1.1, he.1.2, he.2, by simpa using hl, rfl⟩)
    · exact .inl rfl
  | uartTimeout => exact .inl (by simp only [agentEffect, uartTimeoutStep]; split <;> rfl)
  | gpuTake => exact .inl (by simp only [agentEffect, gpuTake]; split <;> rfl)
  | gpuRespond words r =>
    refine .inl ?_
    simp only [agentEffect, gpuRespond]
    split
    · split
      · rw [gpuWrites_eq]; rfl
      · rfl
    · rfl
  | gpuSpurious r => exact .inl (by simp only [agentEffect, gpuSpurious]; split <;> rfl)
  | _ => exact .inl rfl

/-- The counter moves at the timer's turn alone. -/
theorem agentEffect_cnt (a : Config.Turn) (s : State) :
    (agentEffect a s).timer.cnt = s.timer.cnt ∨
      (a = .timer ∧ (agentEffect a s).timer.cnt = s.timer.cnt + 1#64) := by
  cases a with
  | timer => exact .inr ⟨rfl, rfl⟩
  | uartTx g =>
    refine .inl ?_
    simp only [agentEffect, uartTxStep]
    split
    · rfl
    · split
      · split
        · split <;> rfl
        · split <;> rfl
      · rfl
  | uartRx good bad fe pe be =>
    refine .inl ?_
    simp only [agentEffect, uartRxStep]
    split
    · split <;> rfl
    · rfl
  | uartTimeout => exact .inl (by simp only [agentEffect, uartTimeoutStep]; split <;> rfl)
  | gpuTake => exact .inl (by simp only [agentEffect, gpuTake]; split <;> rfl)
  | gpuRespond words r =>
    refine .inl ?_
    simp only [agentEffect, gpuRespond]
    split
    · split
      · rw [gpuWrites_eq]; rfl
      · rfl
    · rfl
  | gpuSpurious r => exact .inl (by simp only [agentEffect, gpuSpurious]; split <;> rfl)
  | _ => exact .inl rfl

/-! ### The machine -/

/-- What a step can do: the machine has ended and stays; the CPU's program moves, at once or at its turn; the CPU takes the IRQ; or an
agent moves. -/
theorem step_cases {s t : State} (h : step s = .next t) :
    (s.finished = true ∧ t = s) ∨
    (s.finished = false ∧ silentHead s = true ∧ cpuStep s = .next t) ∨
    (s.finished = false ∧ silentHead s = false ∧ s.nextTurn = .cpu ∧ cpuStep s.giveTurn = .next t) ∨
    (s.finished = false ∧ silentHead s = false ∧ s.nextTurn = .irqEntry ∧ irqEnabled s = true ∧ s.cpu.vbarSet = true ∧
      t = (s.giveTurn.setCpu { s.cpu with
        saved := some s.cpu.cont, savedMask := s.cpu.irqMask, irqMask := true, ctx := .irq, cont := irqVector }).retire 1) ∨
    (s.finished = false ∧ silentHead s = false ∧ s.nextTurn = .irqEntry ∧ irqEnabled s = false ∧ t = s.giveTurn.skip) ∨
    (s.finished = false ∧ silentHead s = false ∧ s.nextTurn ≠ .cpu ∧ s.nextTurn ≠ .irqEntry ∧
      t = (agentEffect s.nextTurn s.giveTurn).skip) := by
  unfold step machineStep at h
  split at h
  · cases h
  · split at h
    · rename_i hf; cases h; exact .inl ⟨hf, rfl⟩
    · rename_i hf
      have hf : s.finished = false := by simpa using hf
      split at h
      · rename_i hs; exact .inr (.inl ⟨hf, hs, h⟩)
      · rename_i hs
        have hs : silentHead s = false := by simpa using hs
        refine .inr (.inr ?_)
        have agent : s.nextTurn ≠ .cpu → s.nextTurn ≠ .irqEntry → runTurn s.nextTurn s.giveTurn = .next t →
            t = (agentEffect s.nextTurn s.giveTurn).skip := by
          intro h1 h2 h3
          cases hn : s.nextTurn <;> rw [hn] at h1 h2 h3 <;> first | exact absurd rfl h1 | exact absurd rfl h2 | (cases h3; rfl)
        by_cases hc : s.nextTurn = .cpu
        · rw [hc] at h; exact .inl ⟨hf, hs, hc, h⟩
        · by_cases hi : s.nextTurn = .irqEntry
          · rw [hi] at h
            simp only [runTurn, irqEntryStep] at h
            have he : irqEnabled s.giveTurn = irqEnabled s := rfl
            rw [he] at h
            split at h
            · rename_i hen
              obtain ⟨-, hv, rfl⟩ := takeException_spec h
              exact .inr (.inl ⟨hf, hs, hi, hen, hv, rfl⟩)
            · rename_i hen
              cases h
              exact .inr (.inr (.inl ⟨hf, hs, hi, by simpa using hen, rfl⟩))
          · exact .inr (.inr (.inr ⟨hf, hs, hc, hi, agent hc hi h⟩))

end Sys2Proof.Machine
end

