-- ==== Sys2Proof/Tests/Slice0.lean ====
section
/-! SUPPORT. Tests: ill-formed terms, words written out from the encoding tables, the vectors of spec/95_test_vectors.md
(expected results are worked out there from the rules), and a witness for the hypotheses of every statement. -/

namespace Sys2Proof.Tests

open Sys2Proof Sys2Proof.Machine

/-! ### Helpers -/

/-- The answer is a next state that satisfies `p`. -/
def goes (r : Result) (p : State → Bool) : Bool :=
  match r with
  | .next t => p t
  | _ => false

/-- The answer is the refusal `x`. -/
def refuses (r : Result) (x : Refusal) : Bool :=
  match r with
  | .refused y => decide (y = x)
  | _ => false

/-- The answer is the fault `x`. -/
def faults (r : Result) (x : Fault) : Bool :=
  match r with
  | .fault y => decide (y = x)
  | _ => false

/-- A literal. -/
def lit (v : Nat) : Expr := .lit (BitVec.ofNat 32 v)

/-- The reset state with another UART. -/
def withUart (u : Uart → Uart) : State := State.reset.setUart (u State.reset.uart)
/-- The reset state with another GPIO block, at cycle `c`. -/
def withGpio (c : Nat) (g : Gpio → Gpio) : State := (State.reset.setGpio (g State.reset.gpio)).setCyc c
/-- The reset state with another CPU. -/
def withCpu (c : Cpu → Cpu) : State := State.reset.setCpu (c State.reset.cpu)
/-- The reset state with another timer. -/
def withTimer (f : Timer → Timer) : State := State.reset.setTimer (f State.reset.timer)
/-- The reset state with another mailbox. -/
def withMbox (f : Mailbox → Mailbox) : State := State.reset.setMbox (f State.reset.mbox)
/-- An entry of the receive FIFO without errors. -/
def rx (b : Byte) : RxEntry := ⟨b, false, false, false, false⟩
/-- `n` copies of a received byte. -/
def rxs (n : Nat) : List RxEntry := List.replicate n (rx 0x31#8)

/-- What follows an instruction in the decoding tests: the decoder must leave it. -/
def ends : List Word := [0xFFFFFFFF#32]

/-! ### Ill-formed terms (WellFormed.lean) -/

theorem test_wf_slice_reversed : (Instr.wr32Gpset0 (.slice 3 4 (.loc 0))).wf = false := by decide
theorem test_wf_slice_above_31 : (Instr.uartPutc (.bin .add (.loc 0) (.slice 32 0 (.loc 0)))).wf = false := by decide
theorem test_wf_result_of_drain : (Instr.timerNowUs .drain).wf = false := by decide
theorem test_wf_resumption_point : (Instr.rd32Gplev0 .ignore).wf = false := by decide
theorem test_wf_handler_too_long : (Instr.installInputHandler (.table (List.replicate 257 []))).wf = false := by
  set_option maxRecDepth 4000 in decide
theorem test_wf_function_above_7 : (Instr.gpioSetFunction 0 8).wf = false := by decide
theorem test_wf_pull_above_2 : (Instr.gpioSetPull 0 3).wf = false := by decide

/-! ### Decoding: one word sequence for each row of the opcode table (R302, R340, R341; operands by log 5) -/

theorem test_decode_rd32Gpfsel0 : decode ([0x00200000#32, 1#32] ++ ends) =
    .ok (.rd32Gpfsel0 (.ret (.loc 1))) ends := by decide
theorem test_decode_rd32Gpfsel1 : decode ([0x00200004#32, 2#32] ++ ends) =
    .ok (.rd32Gpfsel1 (.ret (.loc 2))) ends := by decide
theorem test_decode_rd32Gpfsel2 : decode ([0x00200008#32, 3#32] ++ ends) =
    .ok (.rd32Gpfsel2 (.ret (.loc 3))) ends := by decide
theorem test_decode_rd32Gpfsel3 : decode ([0x0020000C#32, 4#32] ++ ends) =
    .ok (.rd32Gpfsel3 (.ret (.loc 4))) ends := by decide
theorem test_decode_rd32Gpfsel4 : decode ([0x00200010#32, 5#32] ++ ends) =
    .ok (.rd32Gpfsel4 (.ret (.loc 5))) ends := by decide
theorem test_decode_rd32Gpfsel5 : decode ([0x00200014#32, 6#32] ++ ends) =
    .ok (.rd32Gpfsel5 (.ret (.loc 6))) ends := by decide
theorem test_decode_wr32Gpfsel0 : decode ([0x01200000#32, 0#32, 0x89ABCD06#32] ++ ends) =
    .ok (.wr32Gpfsel0 (.lit 0x89ABCD06#32)) ends := by decide
theorem test_decode_wr32Gpfsel1 : decode ([0x01200004#32, 0#32, 0x89ABCD07#32] ++ ends) =
    .ok (.wr32Gpfsel1 (.lit 0x89ABCD07#32)) ends := by decide
theorem test_decode_wr32Gpfsel2 : decode ([0x01200008#32, 0#32, 0x89ABCD08#32] ++ ends) =
    .ok (.wr32Gpfsel2 (.lit 0x89ABCD08#32)) ends := by decide
theorem test_decode_wr32Gpfsel3 : decode ([0x0120000C#32, 0#32, 0x89ABCD09#32] ++ ends) =
    .ok (.wr32Gpfsel3 (.lit 0x89ABCD09#32)) ends := by decide
theorem test_decode_wr32Gpfsel4 : decode ([0x01200010#32, 0#32, 0x89ABCD0A#32] ++ ends) =
    .ok (.wr32Gpfsel4 (.lit 0x89ABCD0A#32)) ends := by decide
theorem test_decode_wr32Gpfsel5 : decode ([0x01200014#32, 0#32, 0x89ABCD0B#32] ++ ends) =
    .ok (.wr32Gpfsel5 (.lit 0x89ABCD0B#32)) ends := by decide
theorem test_decode_rd32Gppud : decode ([0x00200094#32, 13#32] ++ ends) = .ok (.rd32Gppud (.ret (.loc 13))) ends := by decide
theorem test_decode_wr32Gppud : decode ([0x01200094#32, 0#32, 0x89ABCD0D#32] ++ ends) =
    .ok (.wr32Gppud (.lit 0x89ABCD0D#32)) ends := by decide
theorem test_decode_rd32Gppudclk0 : decode ([0x00200098#32, 15#32] ++ ends) =
    .ok (.rd32Gppudclk0 (.ret (.loc 15))) ends := by decide
theorem test_decode_rd32Gppudclk1 : decode ([0x0020009C#32, 16#32] ++ ends) =
    .ok (.rd32Gppudclk1 (.ret (.loc 16))) ends := by decide
theorem test_decode_wr32Gppudclk0 : decode ([0x01200098#32, 0#32, 0x89ABCD10#32] ++ ends) =
    .ok (.wr32Gppudclk0 (.lit 0x89ABCD10#32)) ends := by decide
theorem test_decode_wr32Gppudclk1 : decode ([0x0120009C#32, 0#32, 0x89ABCD11#32] ++ ends) =
    .ok (.wr32Gppudclk1 (.lit 0x89ABCD11#32)) ends := by decide
theorem test_decode_wr32Gpset0 : decode ([0x0120001C#32, 0#32, 0x89ABCD12#32] ++ ends) =
    .ok (.wr32Gpset0 (.lit 0x89ABCD12#32)) ends := by decide
theorem test_decode_wr32Gpset1 : decode ([0x01200020#32, 0#32, 0x89ABCD13#32] ++ ends) =
    .ok (.wr32Gpset1 (.lit 0x89ABCD13#32)) ends := by decide
theorem test_decode_wr32Gpclr0 : decode ([0x01200028#32, 0#32, 0x89ABCD14#32] ++ ends) =
    .ok (.wr32Gpclr0 (.lit 0x89ABCD14#32)) ends := by decide
theorem test_decode_wr32Gpclr1 : decode ([0x0120002C#32, 0#32, 0x89ABCD15#32] ++ ends) =
    .ok (.wr32Gpclr1 (.lit 0x89ABCD15#32)) ends := by decide
theorem test_decode_rd32Gplev0 : decode ([0x00200034#32, 23#32] ++ ends) =
    .ok (.rd32Gplev0 (.ret (.loc 23))) ends := by decide
theorem test_decode_rd32Gplev1 : decode ([0x00200038#32, 24#32] ++ ends) =
    .ok (.rd32Gplev1 (.ret (.loc 24))) ends := by decide
theorem test_decode_rd32Gpset0 : decode ([0x0020001C#32, 25#32] ++ ends) =
    .ok (.rd32Gpset0 (.ret (.loc 25))) ends := by decide
theorem test_decode_rd32Gpset1 : decode ([0x00200020#32, 26#32] ++ ends) =
    .ok (.rd32Gpset1 (.ret (.loc 26))) ends := by decide
theorem test_decode_rd32Gpclr0 : decode ([0x00200028#32, 27#32] ++ ends) =
    .ok (.rd32Gpclr0 (.ret (.loc 27))) ends := by decide
theorem test_decode_rd32Gpclr1 : decode ([0x0020002C#32, 28#32] ++ ends) =
    .ok (.rd32Gpclr1 (.ret (.loc 28))) ends := by decide
theorem test_decode_wr32Gplev0 : decode ([0x01200034#32, 0#32, 0x89ABCD1C#32] ++ ends) =
    .ok (.wr32Gplev0 (.lit 0x89ABCD1C#32)) ends := by decide
theorem test_decode_wr32Gplev1 : decode ([0x01200038#32, 0#32, 0x89ABCD1D#32] ++ ends) =
    .ok (.wr32Gplev1 (.lit 0x89ABCD1D#32)) ends := by decide
theorem test_decode_rd32StCs : decode ([0x00003000#32, 31#32] ++ ends) = .ok (.rd32StCs (.ret (.loc 31))) ends := by decide
theorem test_decode_wr32StCs : decode ([0x01003000#32, 0#32, 0x89ABCD1F#32] ++ ends) =
    .ok (.wr32StCs (.lit 0x89ABCD1F#32)) ends := by decide
theorem test_decode_rd32StClo : decode ([0x00003004#32, 33#32] ++ ends) = .ok (.rd32StClo (.ret (.loc 33))) ends := by decide
theorem test_decode_rd32StChi : decode ([0x00003008#32, 34#32] ++ ends) = .ok (.rd32StChi (.ret (.loc 34))) ends := by decide
theorem test_decode_rd32StC0 : decode ([0x0000300C#32, 35#32] ++ ends) = .ok (.rd32StC0 (.ret (.loc 35))) ends := by decide
theorem test_decode_rd32StC1 : decode ([0x00003010#32, 36#32] ++ ends) = .ok (.rd32StC1 (.ret (.loc 36))) ends := by decide
theorem test_decode_rd32StC2 : decode ([0x00003014#32, 37#32] ++ ends) = .ok (.rd32StC2 (.ret (.loc 37))) ends := by decide
theorem test_decode_rd32StC3 : decode ([0x00003018#32, 38#32] ++ ends) = .ok (.rd32StC3 (.ret (.loc 38))) ends := by decide
theorem test_decode_wr32StC0 : decode ([0x0100300C#32, 0#32, 0x89ABCD26#32] ++ ends) =
    .ok (.wr32StC0 (.lit 0x89ABCD26#32)) ends := by decide
theorem test_decode_wr32StC1 : decode ([0x01003010#32, 0#32, 0x89ABCD27#32] ++ ends) =
    .ok (.wr32StC1 (.lit 0x89ABCD27#32)) ends := by decide
theorem test_decode_wr32StC2 : decode ([0x01003014#32, 0#32, 0x89ABCD28#32] ++ ends) =
    .ok (.wr32StC2 (.lit 0x89ABCD28#32)) ends := by decide
theorem test_decode_wr32StC3 : decode ([0x01003018#32, 0#32, 0x89ABCD29#32] ++ ends) =
    .ok (.wr32StC3 (.lit 0x89ABCD29#32)) ends := by decide
theorem test_decode_wr32StClo : decode ([0x01003004#32, 0#32, 0x89ABCD2A#32] ++ ends) =
    .ok (.wr32StClo (.lit 0x89ABCD2A#32)) ends := by decide
theorem test_decode_wr32StChi : decode ([0x01003008#32, 0#32, 0x89ABCD2B#32] ++ ends) =
    .ok (.wr32StChi (.lit 0x89ABCD2B#32)) ends := by decide
theorem test_decode_rd32IrqBasicPending : decode ([0x0000B200#32, 45#32] ++ ends) =
    .ok (.rd32IrqBasicPending (.ret (.loc 45))) ends := by decide
theorem test_decode_rd32IrqPending1 : decode ([0x0000B204#32, 46#32] ++ ends) =
    .ok (.rd32IrqPending1 (.ret (.loc 46))) ends := by decide
theorem test_decode_rd32IrqPending2 : decode ([0x0000B208#32, 47#32] ++ ends) =
    .ok (.rd32IrqPending2 (.ret (.loc 47))) ends := by decide
theorem test_decode_rd32FiqControl : decode ([0x0000B20C#32, 48#32] ++ ends) =
    .ok (.rd32FiqControl (.ret (.loc 48))) ends := by decide
theorem test_decode_wr32FiqControl : decode ([0x0100B20C#32, 0#32, 0x89ABCD30#32] ++ ends) =
    .ok (.wr32FiqControl (.lit 0x89ABCD30#32)) ends := by decide
theorem test_decode_rd32EnableIrqs1 : decode ([0x0000B210#32, 50#32] ++ ends) =
    .ok (.rd32EnableIrqs1 (.ret (.loc 50))) ends := by decide
theorem test_decode_wr32EnableIrqs1 : decode ([0x0100B210#32, 0#32, 0x89ABCD32#32] ++ ends) =
    .ok (.wr32EnableIrqs1 (.lit 0x89ABCD32#32)) ends := by decide
theorem test_decode_rd32EnableIrqs2 : decode ([0x0000B214#32, 52#32] ++ ends) =
    .ok (.rd32EnableIrqs2 (.ret (.loc 52))) ends := by decide
theorem test_decode_wr32EnableIrqs2 : decode ([0x0100B214#32, 0#32, 0x89ABCD34#32] ++ ends) =
    .ok (.wr32EnableIrqs2 (.lit 0x89ABCD34#32)) ends := by decide
theorem test_decode_rd32EnableBasic : decode ([0x0000B218#32, 54#32] ++ ends) =
    .ok (.rd32EnableBasic (.ret (.loc 54))) ends := by decide
theorem test_decode_wr32EnableBasic : decode ([0x0100B218#32, 0#32, 0x89ABCD36#32] ++ ends) =
    .ok (.wr32EnableBasic (.lit 0x89ABCD36#32)) ends := by decide
theorem test_decode_rd32DisableIrqs1 : decode ([0x0000B21C#32, 56#32] ++ ends) =
    .ok (.rd32DisableIrqs1 (.ret (.loc 56))) ends := by decide
theorem test_decode_wr32DisableIrqs1 : decode ([0x0100B21C#32, 0#32, 0x89ABCD38#32] ++ ends) =
    .ok (.wr32DisableIrqs1 (.lit 0x89ABCD38#32)) ends := by decide
theorem test_decode_rd32DisableIrqs2 : decode ([0x0000B220#32, 58#32] ++ ends) =
    .ok (.rd32DisableIrqs2 (.ret (.loc 58))) ends := by decide
theorem test_decode_wr32DisableIrqs2 : decode ([0x0100B220#32, 0#32, 0x89ABCD3A#32] ++ ends) =
    .ok (.wr32DisableIrqs2 (.lit 0x89ABCD3A#32)) ends := by decide
theorem test_decode_rd32DisableBasic : decode ([0x0000B224#32, 60#32] ++ ends) =
    .ok (.rd32DisableBasic (.ret (.loc 60))) ends := by decide
theorem test_decode_wr32DisableBasic : decode ([0x0100B224#32, 0#32, 0x89ABCD3C#32] ++ ends) =
    .ok (.wr32DisableBasic (.lit 0x89ABCD3C#32)) ends := by decide
theorem test_decode_wr32IrqBasicPending : decode ([0x0100B200#32, 0#32, 0x89ABCD3D#32] ++ ends) =
    .ok (.wr32IrqBasicPending (.lit 0x89ABCD3D#32)) ends := by decide
theorem test_decode_wr32IrqPending1 : decode ([0x0100B204#32, 0#32, 0x89ABCD3E#32] ++ ends) =
    .ok (.wr32IrqPending1 (.lit 0x89ABCD3E#32)) ends := by decide
theorem test_decode_wr32IrqPending2 : decode ([0x0100B208#32, 0#32, 0x89ABCD3F#32] ++ ends) =
    .ok (.wr32IrqPending2 (.lit 0x89ABCD3F#32)) ends := by decide
theorem test_decode_rd32Mbox0Read : decode ([0x0000B880#32, 65#32] ++ ends) =
    .ok (.rd32Mbox0Read (.ret (.loc 65))) ends := by decide
theorem test_decode_rd32Mbox0Peek : decode ([0x0000B890#32, 66#32] ++ ends) =
    .ok (.rd32Mbox0Peek (.ret (.loc 66))) ends := by decide
theorem test_decode_rd32Mbox0Status : decode ([0x0000B898#32, 67#32] ++ ends) =
    .ok (.rd32Mbox0Status (.ret (.loc 67))) ends := by decide
theorem test_decode_rd32Mbox1Status : decode ([0x0000B8B8#32, 68#32] ++ ends) =
    .ok (.rd32Mbox1Status (.ret (.loc 68))) ends := by decide
theorem test_decode_wr32Mbox1Write : decode ([0x0100B8A0#32, 0#32, 0x89ABCD44#32] ++ ends) =
    .ok (.wr32Mbox1Write (.lit 0x89ABCD44#32)) ends := by decide
theorem test_decode_wr32Mbox0Read : decode ([0x0100B880#32, 0#32, 0x89ABCD45#32] ++ ends) =
    .ok (.wr32Mbox0Read (.lit 0x89ABCD45#32)) ends := by decide
theorem test_decode_wr32Mbox0Peek : decode ([0x0100B890#32, 0#32, 0x89ABCD46#32] ++ ends) =
    .ok (.wr32Mbox0Peek (.lit 0x89ABCD46#32)) ends := by decide
theorem test_decode_wr32Mbox0Status : decode ([0x0100B898#32, 0#32, 0x89ABCD47#32] ++ ends) =
    .ok (.wr32Mbox0Status (.lit 0x89ABCD47#32)) ends := by decide
theorem test_decode_wr32Mbox1Status : decode ([0x0100B8B8#32, 0#32, 0x89ABCD48#32] ++ ends) =
    .ok (.wr32Mbox1Status (.lit 0x89ABCD48#32)) ends := by decide
theorem test_decode_rd32Mbox1Write : decode ([0x0000B8A0#32, 74#32] ++ ends) =
    .ok (.rd32Mbox1Write (.ret (.loc 74))) ends := by decide
theorem test_decode_rd32UartDr : decode ([0x00201000#32, 75#32] ++ ends) =
    .ok (.rd32UartDr (.ret (.loc 75))) ends := by decide
theorem test_decode_wr32UartDr : decode ([0x01201000#32, 0#32, 0x89ABCD4B#32] ++ ends) =
    .ok (.wr32UartDr (.lit 0x89ABCD4B#32)) ends := by decide
theorem test_decode_rd32UartRsrecr : decode ([0x00201004#32, 77#32] ++ ends) =
    .ok (.rd32UartRsrecr (.ret (.loc 77))) ends := by decide
theorem test_decode_wr32UartRsrecr : decode ([0x01201004#32, 0#32, 0x89ABCD4D#32] ++ ends) =
    .ok (.wr32UartRsrecr (.lit 0x89ABCD4D#32)) ends := by decide
theorem test_decode_rd32UartFr : decode ([0x00201018#32, 79#32] ++ ends) =
    .ok (.rd32UartFr (.ret (.loc 79))) ends := by decide
theorem test_decode_rd32UartIbrd : decode ([0x00201024#32, 80#32] ++ ends) =
    .ok (.rd32UartIbrd (.ret (.loc 80))) ends := by decide
theorem test_decode_wr32UartIbrd : decode ([0x01201024#32, 0#32, 0x89ABCD50#32] ++ ends) =
    .ok (.wr32UartIbrd (.lit 0x89ABCD50#32)) ends := by decide
theorem test_decode_rd32UartFbrd : decode ([0x00201028#32, 82#32] ++ ends) =
    .ok (.rd32UartFbrd (.ret (.loc 82))) ends := by decide
theorem test_decode_wr32UartFbrd : decode ([0x01201028#32, 0#32, 0x89ABCD52#32] ++ ends) =
    .ok (.wr32UartFbrd (.lit 0x89ABCD52#32)) ends := by decide
theorem test_decode_rd32UartLcrh : decode ([0x0020102C#32, 84#32] ++ ends) =
    .ok (.rd32UartLcrh (.ret (.loc 84))) ends := by decide
theorem test_decode_wr32UartLcrh : decode ([0x0120102C#32, 0#32, 0x89ABCD54#32] ++ ends) =
    .ok (.wr32UartLcrh (.lit 0x89ABCD54#32)) ends := by decide
theorem test_decode_rd32UartCr : decode ([0x00201030#32, 86#32] ++ ends) =
    .ok (.rd32UartCr (.ret (.loc 86))) ends := by decide
theorem test_decode_wr32UartCr : decode ([0x01201030#32, 0#32, 0x89ABCD56#32] ++ ends) =
    .ok (.wr32UartCr (.lit 0x89ABCD56#32)) ends := by decide
theorem test_decode_rd32UartIfls : decode ([0x00201034#32, 88#32] ++ ends) =
    .ok (.rd32UartIfls (.ret (.loc 88))) ends := by decide
theorem test_decode_wr32UartIfls : decode ([0x01201034#32, 0#32, 0x89ABCD58#32] ++ ends) =
    .ok (.wr32UartIfls (.lit 0x89ABCD58#32)) ends := by decide
theorem test_decode_rd32UartImsc : decode ([0x00201038#32, 90#32] ++ ends) =
    .ok (.rd32UartImsc (.ret (.loc 90))) ends := by decide
theorem test_decode_wr32UartImsc : decode ([0x01201038#32, 0#32, 0x89ABCD5A#32] ++ ends) =
    .ok (.wr32UartImsc (.lit 0x89ABCD5A#32)) ends := by decide
theorem test_decode_rd32UartRis : decode ([0x0020103C#32, 92#32] ++ ends) =
    .ok (.rd32UartRis (.ret (.loc 92))) ends := by decide
theorem test_decode_rd32UartMis : decode ([0x00201040#32, 93#32] ++ ends) =
    .ok (.rd32UartMis (.ret (.loc 93))) ends := by decide
theorem test_decode_wr32UartIcr : decode ([0x01201044#32, 0#32, 0x89ABCD5D#32] ++ ends) =
    .ok (.wr32UartIcr (.lit 0x89ABCD5D#32)) ends := by decide
theorem test_decode_wr32UartFr : decode ([0x01201018#32, 0#32, 0x89ABCD5E#32] ++ ends) =
    .ok (.wr32UartFr (.lit 0x89ABCD5E#32)) ends := by decide
theorem test_decode_wr32UartRis : decode ([0x0120103C#32, 0#32, 0x89ABCD5F#32] ++ ends) =
    .ok (.wr32UartRis (.lit 0x89ABCD5F#32)) ends := by decide
theorem test_decode_wr32UartMis : decode ([0x01201040#32, 0#32, 0x89ABCD60#32] ++ ends) =
    .ok (.wr32UartMis (.lit 0x89ABCD60#32)) ends := by decide
theorem test_decode_rd32UartIcr : decode ([0x00201044#32, 98#32] ++ ends) =
    .ok (.rd32UartIcr (.ret (.loc 98))) ends := by decide
theorem test_decode_dmb : decode ([0x80000100#32] ++ ends) = .ok .dmb ends := by decide
theorem test_decode_setvbar : decode ([0x80000200#32, 0#32, 0x89ABCD63#32] ++ ends) =
    .ok (.setvbar (.lit 0x89ABCD63#32)) ends := by decide
theorem test_decode_cpsie : decode ([0x80000300#32] ++ ends) = .ok .cpsie ends := by decide
theorem test_decode_cpsid : decode ([0x80000400#32] ++ ends) = .ok .cpsid ends := by decide
theorem test_decode_spin : decode ([0x80000500#32, 150#32] ++ ends) = .ok (.spin 150) ends := by decide
theorem test_decode_iret : decode ([0x80000600#32] ++ ends) = .ok .iret ends := by decide
theorem test_decode_ldw : decode ([0x80000700#32, 0#32, 0x00100004#32, 9#32] ++ ends) =
    .ok (.ldw (.lit 0x00100004#32) (.ret (.loc 9))) ends := by decide
theorem test_decode_stw : decode ([0x80000800#32, 0#32, 0x00080000#32, 1#32, 3#32] ++ ends) =
    .ok (.stw (.lit 0x00080000#32) (.loc 3)) ends := by decide
theorem test_decode_gpioSetFunction : decode ([0x40001000#32, 14#32, 4#32] ++ ends) =
    .ok (.gpioSetFunction 14 4) ends := by decide
theorem test_decode_gpioSetOutput : decode ([0x40001100#32, 47#32, 0#32, 1#32] ++ ends) =
    .ok (.gpioSetOutput 47 (.lit 1#32)) ends := by decide
theorem test_decode_gpioGetInput : decode ([0x40001200#32, 16#32, 7#32] ++ ends) =
    .ok (.gpioGetInput 16 (.loc 7)) ends := by decide
theorem test_decode_gpioSetPull : decode ([0x40001300#32, 53#32, 2#32] ++ ends) = .ok (.gpioSetPull 53 2) ends := by decide
theorem test_decode_mboxCall : decode ([0x40002000#32, 11#32] ++ ends) = .ok (.mboxCall (.loc 11)) ends := by decide
theorem test_decode_getDisplaySurface : decode ([0x40002100#32, 12#32] ++ ends) =
    .ok (.getDisplaySurface (.loc 12)) ends := by decide
theorem test_decode_timerNowUs : decode ([0x40003000#32, 13#32] ++ ends) = .ok (.timerNowUs (.loc 13)) ends := by decide
theorem test_decode_timerNowUs64 : decode ([0x40003100#32, 14#32] ++ ends) = .ok (.timerNowUs64 (.loc 14)) ends := by decide
theorem test_decode_timerSleepUs : decode ([0x40003200#32, 0#32, 0x89ABCD72#32] ++ ends) =
    .ok (.timerSleepUs (.lit 0x89ABCD72#32)) ends := by decide
theorem test_decode_timerSleepMs : decode ([0x40003300#32, 0#32, 0x89ABCD73#32] ++ ends) =
    .ok (.timerSleepMs (.lit 0x89ABCD73#32)) ends := by decide
theorem test_decode_timerArmPeriodic : decode ([0x40003400#32, 0#32, 0x89ABCD74#32] ++ ends) =
    .ok (.timerArmPeriodic (.lit 0x89ABCD74#32)) ends := by decide
theorem test_decode_timerOnInterrupt : decode ([0x40003500#32] ++ ends) = .ok .timerOnInterrupt ends := by decide
theorem test_decode_ticksMs : decode ([0x40003600#32, 19#32] ++ ends) = .ok (.ticksMs (.loc 19)) ends := by decide
theorem test_decode_irqInstall : decode ([0x40004000#32] ++ ends) = .ok .irqInstall ends := by decide
theorem test_decode_handleIrq : decode ([0x40004100#32] ++ ends) = .ok .handleIrq ends := by decide
theorem test_decode_uartDrain : decode ([0x40004200#32] ++ ends) = .ok .uartDrain ends := by decide
theorem test_decode_installInputHandler : decode ([0x40004300#32, 3#32, 0#32, 1#32, 0x80000100#32] ++ ends) =
    .ok (.installInputHandler (.table [[], [0x80000100#32]])) ends := by decide
theorem test_decode_uartInit : decode ([0x40005000#32, 0#32, 0x89ABCD7B#32] ++ ends) =
    .ok (.uartInit (some (.lit 0x89ABCD7B#32))) ends := by decide
theorem test_decode_uartInit_default : decode ([0x40005000#32, 15#32] ++ ends) = .ok (.uartInit none) ends := by decide
theorem test_decode_uartPutc : decode ([0x40005100#32, 0#32, 0x89ABCD7C#32] ++ ends) =
    .ok (.uartPutc (.lit 0x89ABCD7C#32)) ends := by decide
theorem test_decode_uartPuts : decode ([0x40005200#32, 3#32, 0x68#32, 0x69#32, 0x0A#32] ++ ends) =
    .ok (.uartPuts [0x68#8, 0x69#8, 0x0A#8]) ends := by decide
theorem test_decode_uartGetc : decode ([0x40005300#32, 27#32] ++ ends) = .ok (.uartGetc (.loc 27)) ends := by decide
theorem test_decode_uartGetcNb : decode ([0x40005400#32, 28#32] ++ ends) = .ok (.uartGetcNb (.loc 28)) ends := by decide
theorem test_decode_echo : decode ([0x40005500#32, 0#32, 0x89ABCD80#32] ++ ends) =
    .ok (.echo (.lit 0x89ABCD80#32)) ends := by decide
theorem test_decode_uartPutdec : decode ([0x40005600#32, 0#32, 0x89ABCD81#32] ++ ends) =
    .ok (.uartPutdec (.lit 0x89ABCD81#32)) ends := by decide
theorem test_decode_uartPuthex : decode ([0x40005700#32, 0#32, 0x89ABCD82#32] ++ ends) =
    .ok (.uartPuthex (.lit 0x89ABCD82#32)) ends := by decide

/-- Bits 7:0 of a CPU or driver key are no part of it (R302). -/
theorem test_decode_low_key_bits : decode [0x800003FF#32] = .ok .cpsie [] := by decide
/-- V-IC-11, V-IO-5, V-IO-3 and a key with no row. -/
theorem test_decode_rejects :
    decode [0x0000B228#32, 1#32] = .reject (.unmappedRegister 0x00B228) ∧
      decode [0x0000301C#32, 1#32] = .reject (.unmappedRegister 0x00301C) ∧
      decode [0x00201002#32, 1#32] = .reject (.misalignedOffset 0x201002) ∧
      decode [0x40006000#32] = .reject (.unknownKey 0x40006000) := by decide
/-- `gpio_set_function(0, 8)` and `gpio_set_pull(0, 3)` are refused (R540, R543). -/
theorem test_decode_bad_operands :
    decode [0x40001000#32, 0#32, 8#32] = .reject (.badOperands 0x40001000) ∧
      decode [0x40001300#32, 0#32, 3#32] = .reject (.badOperands 0x40001300) := by decide
/-- `WR32 GPSET0, (1 << a) | ~b[7:4]` in prefix order. -/
theorem test_decode_expression :
    decode [0x0120001C#32, 11#32, 8#32, 0#32, 1#32, 1#32, 0#32, 2#32, 14#32, 7#32, 4#32, 1#32, 1#32] =
      .ok (.wr32Gpset0 (.bin .or (.bin .shl (.lit 1#32) (.loc 0)) (.not (.slice 7 4 (.loc 1))))) [] := by decide

/-- V-IO-1, V-IO-6. -/
theorem test_transaction_reads :
    Transaction.instr 0x3F000000#32 (.ret (.loc 0)) ⟨.read, 0x3F201018#32, 0#32, 4⟩ = .ok (.rd32UartFr (.ret (.loc 0))) ∧
      Transaction.instr 0x20000000#32 (.ret (.loc 0)) ⟨.read, 0x20200034#32, 0#32, 4⟩ =
        .ok (.rd32Gplev0 (.ret (.loc 0))) := by decide
/-- V-IO-2, V-IO-3, V-IO-4 and a byte access (R212). -/
theorem test_transaction_refusals :
    Transaction.instr 0x3F000000#32 .ignore ⟨.read, 0x3F100000#32, 0#32, 4⟩ = .error (.unmappedRegister 0x100000) ∧
      Transaction.instr 0x3F000000#32 .ignore ⟨.read, 0x3F201002#32, 0#32, 4⟩ = .error (.misalignedOffset 0x201002) ∧
      Transaction.instr 0x3F000000#32 .ignore ⟨.read, 0x1F000000#32, 0#32, 4⟩ = .error (.outsideWindow 0x1F000000) ∧
      Transaction.instr 0x3F000000#32 .ignore ⟨.read, 0x40000000#32, 0#32, 4⟩ = .error (.outsideWindow 0x40000000) ∧
      Transaction.instr 0x3F000000#32 .ignore ⟨.write, 0x3F201000#32, 0#32, 1⟩ = .error (.wrongWidth 1) := by decide

/-! ### The step and the loader -/

/-- A primitive: the first instruction after reset, one CPU step. -/
theorem test_step_primitive : step (State.reset.withFetchWord 32 0x80000400) =
    exec .cpsid ((State.reset.setCont [.code [] []]).setSched []) := by rfl
/-- A driver operation is expanded before the CPU's turn. -/
theorem test_step_operation : step (State.reset.withFetchWord 32 0x40001000) =
    exec (.gpioSetFunction 0 0) ((State.reset.setCont [.code [] []]).setSched [.cpu]) := by rfl

/-! ### GPIO (95 section 2.1) -/

/-- V-GPIO-4: the field of pin 14 is replaced, those of pins 10 and 16 stay. -/
theorem test_gpio_4 : fselInsert 14 4 0x00040001#32 = 0x00044001#32 := by decide
/-- V-GPIO-2, V-GPIO-3, V-GPIO-5. -/
theorem test_gpio_fields : fselInsert 9 7 0#32 = 0x38000000#32 ∧ fselInsert 10 4 0#32 = 4#32 ∧ fselInsert 53 1 0#32 = 0x200#32 ∧
    fselReg 53 = 5 ∧ fselReg 10 = 1 := by decide
/-- V-GPIO-6. -/
theorem test_gpio_6 : goes (exec (.gpioSetFunction 54 1) State.reset) (fun t => decide (t = State.reset)) := by decide
/-- V-GPIO-8, V-GPIO-9, V-GPIO-10. -/
theorem test_gpio_8 : goes (exec (.gpioSetOutput 31 (lit 1)) State.reset)
    (fun t => decide (t.cpu.cont = [.op (.wr32Gpset0 (lit 0x80000000))])) := by decide
theorem test_gpio_9 : goes (exec (.wr32Gpset1 (lit 1)) State.reset) (fun t => decide (t.gpio.out = 1#54 <<< 32)) := by decide
theorem test_gpio_10 : goes (exec (.gpioSetOutput 53 (lit 0)) State.reset)
    (fun t => decide (t.cpu.cont = [.op (.wr32Gpclr1 (lit 0x00200000))])) := by decide
/-- Bits 31:22 of GPCLR1 name no pin. -/
theorem test_gpclr1 : goes (exec (.wr32Gpclr1 (lit 0xFFC00001)) (withGpio 0 (fun g => { g with out := 0x3FFFFFFFFFFFFF#54 })))
    (fun t => decide (t.gpio.out = 0x3FFFFEFFFFFFFF#54)) := by decide
/-- V-GPIO-11: bit 15 of GPLEV1 is pin 47. -/
theorem test_gpio_11 : goes (exec (.gpioGetInput 47 (.loc 0)) State.reset)
    (fun t => decide (t.cpu.cont = [.op (.rd32Gplev1 (.levelBit 15 (.loc 0)))])) := by decide
/-- V-GPIO-12: no access, and false. -/
theorem test_gpio_12 : goes (exec (.gpioGetInput 60 (.loc 3)) (State.reset.setCont [.code [] []]))
    (fun t => decide (t.cpu.cont = [.code [] [(3, .bool false)]])) := by decide
/-- V-GPIO-13: at cycle 250 the setup time is met, at 249 it is not. -/
theorem test_gpio_13 : goes (exec (.wr32Gppudclk0 (lit 0x4000)) (withGpio 250 (fun g => { g with pud := 2#2, pudT := 100 })))
    (fun t => decide (t.gpio.pull[14] = .up ∧ t.gpio.clkT[14] = 250 ∧ t.gpio.pull[13] = .unknown)) := by decide
theorem test_gpio_13_short : goes
    (exec (.wr32Gppudclk0 (lit 0x4000)) (withGpio 249 (fun g => { g with pud := 2#2, pudT := 100, pull := g.pull.set 14 .off })))
    (fun t => decide (t.gpio.pull[14] = .unknown)) ∧
  -- R521, R516 (c): writing 0 removes the clock and keeps the pull
  goes (exec (.wr32Gppudclk0 (lit 0)) (withGpio 301 (fun g =>
      { g with pud := 2#2, pudclk := 0x4000#54, clkT := g.clkT.set 14 300, pull := g.pull.set 14 .up })))
    (fun t => decide (t.gpio.pull[14] = .up)) := by decide
/-- The pad of V-GPIO-15. -/
def gpio15 (c : Nat) : State :=
  withGpio c fun g => { g with pud := 2#2, pudclk := 0x4000#54, clkT := g.clkT.set 14 300, pull := g.pull.set 14 .up }
/-- V-GPIO-15: at cycle 449 the hold time is broken, at 450 it is not. -/
theorem test_gpio_15 : goes (exec (.wr32Gppud (lit 0)) (gpio15 449))
    (fun t => decide (t.gpio.pull[14] = .unknown ∧ t.gpio.pud = 0#2 ∧ t.gpio.pudT = 449)) := by decide
theorem test_gpio_15_held : goes (exec (.wr32Gppud (lit 0)) (gpio15 450)) (fun t => decide (t.gpio.pull[14] = .up)) := by decide
/-- V-GPIO-16: the value 3, and the value already held, whose write changes no pull even within the hold. -/
theorem test_gpio_16 : refuses (exec (.wr32Gppud (lit 3)) State.reset) .reservedPud ∧
    goes (exec (.wr32Gppud (lit 2)) (gpio15 449))
      (fun t => decide (t.gpio.pud = 2#2 ∧ t.gpio.pudT = 449 ∧ t.gpio.pull[14] = .up)) := by decide
/-- V-GPIO-18. -/
theorem test_gpio_18 : goes (exec (.wr32Gppudclk1 (lit 0xFFE00000)) (withGpio 150 (fun g => { g with pud := 1#2 })))
    (fun t => decide (t.gpio.pull[53] = .down ∧ t.gpio.pull[52] = .unknown)) := by decide
theorem test_gpio_18_clocks : (pudclkWrite (withGpio 0 (fun g => { g with pudclk := 1#54 <<< 32 })) 1 0xFFE00000#32).pudclk =
    1#54 <<< 53 := by
  set_option maxRecDepth 4000 in decide
/-- V-GPIO-19. -/
theorem test_gpio_19 : goes (exec (.wr32Gpfsel5 (lit 0xFFFFF200)) (withGpio 0 (fun g => { g with fsel := g.fsel.set 50 5#3 })))
    (fun t => decide (t.gpio.fsel[53] = 1#3 ∧ t.gpio.fsel[50] = 0#3 ∧ t.gpio.fsel[49] = 0#3)) := by decide
/-- `FselWord`: pin 10 in bits 2:0 of GPFSEL1, pin 16 in bits 20:18. -/
theorem test_fsel_word : fselWord (withGpio 0 (fun g => { g with fsel := (g.fsel.set 10 1#3).set 16 1#3 })).gpio 1 =
    0x00040001#32 := by decide
/-- V-GPIO-14, first case: the sequence; pin 47 is bit 15 of bank 1. -/
theorem test_gpio_14 : goes (exec (.gpioSetPull 47 1) State.reset) (fun t => decide (t.cpu.cont =
    [.op (.wr32Gppud (lit 1)), .op (.spin 150), .op (.wr32Gppudclk1 (lit 0x8000)), .op (.spin 150), .op (.wr32Gppud (lit 0)),
      .op (.wr32Gppudclk1 (lit 0))])) := by decide
/-- V-GPIO-17: a write to a read-only register leaves everything but the cycle count and the draw index. -/
theorem test_gpio_17 : goes (exec (.wr32Gplev0 (lit 0xFFFFFFFF)) State.reset)
    (fun t => decide ((t.setCyc 0).setDraws 0 = State.reset)) := by decide

/-! ### Mailbox (95 section 2.2) -/

/-- V-MB-1, V-MB-2: bits 31 and 30 of the status words. -/
theorem test_mb_1 : mboxFlags 8 [] = 0x40000000#32 ∧ mboxFlags 8 (List.replicate 8 0#32) = 0x80000000#32 ∧
    mboxFlags 8 [0#32] = 0#32 := by decide
/-- V-MB-3. -/
theorem test_mb_3 : faults (exec (.wr32Mbox1Write (lit 0xC0100008)) (withMbox fun m => { m with outq := List.replicate 8 0#32 }))
    .mboxOverflow := by decide
/-- V-MB-4: the head is popped. -/
theorem test_mb_4 : goes (exec (.rd32Mbox0Read .ignore) (withMbox fun m => { m with inq := [1#32, 0xC0100008#32] }))
    (fun t => decide (t.mbox.inq = [0xC0100008#32])) := by decide
/-- V-MB-5: the FIFO is unchanged. -/
theorem test_mb_5 : goes (exec (.rd32Mbox0Peek (.ret (.loc 0)))
    ((withMbox fun m => { m with inq := [5#32, 8#32] }).setCont [.code [] []]))
    (fun t => decide (t.mbox.inq = [5#32, 8#32] ∧ t.cpu.cont = [.code [] [(0, .word 5#32)]])) := by decide
/-- V-MB-6, under both aliases. -/
theorem test_mb_6 : requestWord Config.Params.reference = 0xC0100008#32 ∧
    requestWord { Config.Params.reference with busAlias := 0x40000000#32 } = 0x40100008#32 := by decide
/-- V-MB-7, V-MB-11: the base is masked. -/
theorem test_mb_7 : toCpu 0xFE000000#32 = 0x3E000000#32 ∧ toCpu 0x40000000#32 = 0#32 := by decide
/-- V-MB-8: an echo of another word fails the call, with no LDW. -/
theorem test_mb_8 : goes (.next (deliver (.mboxReply (.loc 0)) 0xC0200008#32 (State.reset.setCont [.code [] []])))
    (fun t => decide (t.cpu.cont = [.code [] [(0, .mboxFailed)]] ∧ t.soft.surface = none)) := by decide
/-- V-MB-12: a word of another channel is skipped. -/
theorem test_mb_12 : (deliver (.mboxReply (.loc 0)) 1#32 State.reset).cpu.cont =
    [.op (.rd32Mbox0Status (.mboxInStatus (.loc 0)))] := by decide
/-- V-MB-13. -/
theorem test_mb_13 : faults (exec (.getDisplaySurface (.loc 0)) State.reset) .noSurface := by decide
/-- V-MB-14: words 0, 1, 2, 7, 12, 16, 21 and 25 of the request image. -/
theorem test_mb_14 : [0, 1, 2, 7, 12, 16, 21, 25].map (fun k => (requestImage Config.Params.reference)[k]?) =
    [some 112#32, some 0#32, some 0x00048003#32, some 0x00048004#32, some 0x00048005#32, some 0x00040001#32,
      some 0x00040008#32, some 0#32] := by decide
/-- The GPU writes only words 0 to 27 of the buffer that the taken word names. -/
theorem test_gpu_respond : ((gpuRespond [(1, 0x80000000#32), (28, 1#32)] 0xC0100008#32
    (withMbox fun m => { m with gpu := some 0xC0100008#32 })).mem, (gpuRespond [] 7#32
    (withMbox fun m => { m with gpu := some 0xC0100008#32 })).mbox) = ([(0x100007, 0x80#8)], ⟨[7#32], [], none⟩) := by decide

/-! ### System timer (95 section 2.3) -/

/-- V-TIM-1. -/
theorem test_tim_1 : goes (exec (.rd32StClo (.ret (.loc 0)))
    ((withTimer fun t => { t with cnt := 0x00000001FFFFFFF0#64 }).setCont [.code [] []]))
    (fun t => decide ((scopeLocals t.cpu.cont).lookup 0 = some (.word 0xFFFFFFF0#32))) := by
  simp only [exec, execRd32StClo, readReg, withDraw_all]; decide
theorem test_tim_1_high : goes (exec (.rd32StChi (.ret (.loc 0)))
    ((withTimer fun t => { t with cnt := 0x00000001FFFFFFF0#64 }).setCont [.code [] []]))
    (fun t => decide ((scopeLocals t.cpu.cont).lookup 0 = some (.word 1#32))) := by
  simp only [exec, execRd32StChi, readReg, withDraw_all]; decide
/-- The timer step sets a flag at the compare value, across the wrap of the low half too (V-TIM-4). -/
theorem test_tim_4 : (timerTick { cnt := 0x00000000FFFFFFFF#64, cmp := ⟨#[5#32, 0#32, 0#32, 7#32], rfl⟩, m := 0b1000#4 }) =
    { cnt := 0x0000000100000000#64, cmp := ⟨#[5#32, 0#32, 0#32, 7#32], rfl⟩, m := 0b1110#4 } := by decide
/-- V-TIM-5: ones clear. -/
theorem test_tim_5 : goes (exec (.wr32StCs (lit 2)) (withTimer fun t => { t with m := 0b1010#4 }))
    (fun t => decide (t.timer.m = 0b1000#4)) := by decide
theorem test_tim_5_zero : goes (exec (.wr32StCs (lit 0)) (withTimer fun t => { t with m := 0b1000#4 }))
    (fun t => decide (t.timer.m = 0b1000#4)) := by decide
/-- V-TIM-6: different high halves, so again. -/
theorem test_tim_6 : (deliver (.now64Hi2 (.loc 0) 0#32 0xFFFFFFFF#32) 1#32 State.reset).cpu.cont =
    [.op (.rd32StChi (.now64Hi (.loc 0)))] := by decide
/-- V-TIM-7. -/
theorem test_tim_7 : (deliver (.now64Hi2 (.loc 0) 1#32 2#32) 1#32 (State.reset.setCont [.code [] []])).cpu.cont =
    [.code [] [(0, .dword 0x0000000100000002#64)]] := by decide
/-- V-TIM-8: the sum wraps, so there are two waits. -/
theorem test_tim_8 : (deliver (.sleepStart 0x200#32) 0xFFFFFF00#32 State.reset).cpu.cont =
    [.op (.rd32StClo (.sleepWrap 0xFFFFFF00#32 0x100#32))] := by decide
/-- V-TIM-9: a duration of 0 whose first read comes one timer step late waits on. -/
theorem test_tim_9 : (deliver (.sleepUntil 0xFFFFFFFF#32) 0#32 State.reset).cpu.cont =
    [.op (.rd32StClo (.sleepUntil 0xFFFFFFFF#32))] := by decide
/-- V-TIM-11. -/
theorem test_tim_11 : goes (exec (.timerSleepMs (lit 4294968)) State.reset)
    (fun t => decide (t.cpu.cont = [.op (.timerSleepUs (lit 704))])) := by decide
/-- V-TIM-12, both cases. -/
theorem test_tim_12 : (deliver (.armNow 10#32) 1000#32 State.reset).cpu.cont = [.op (.wr32StC1 (lit 11000))] ∧
    (deliver (.armNow 0#32) 77#32 State.reset).cpu.cont = [.op (.wr32StC1 (lit 77))] := by decide
/-- V-TIM-13: the expansion, and the rearm. -/
theorem test_tim_13 : goes (exec .timerOnInterrupt State.reset) (fun t => decide (t.cpu.cont =
    [.op (.wr32StCs (lit 2)), .tickStep, .op (.rd32StClo .rearm)])) ∧
    (deliver .rearm 50020#32 State.reset).cpu.cont = [.op (.wr32StC1 (lit 60020))] := by decide
/-- V-TIM-14. -/
theorem test_tim_14 : goes (runTickStep (State.reset.setSoft { State.reset.soft with tick := 0xFFFFFFFF#32 }))
    (fun t => decide (t.soft.tick = 0#32)) := by decide
/-- V-TIM-15. -/
theorem test_tim_15 : goes (exec (.wr32StC1 (lit 0x2710)) State.reset)
    (fun t => decide (t.timer.cmp = ⟨#[0#32, 0x2710#32, 0#32, 0#32], rfl⟩)) := by decide

/-! ### Interrupt controller and exceptions (95 section 2.4) -/

/-- The reset state with enables, a match flag and the phase of the mask. -/
def withIrq (masked : Bool) (en1 en2 : Nat) (m : Nat) : State :=
  (((withTimer fun t => { t with m := BitVec.ofNat 4 m }).setIntc
    { State.reset.intc with en1 := BitVec.ofNat 32 en1, en2 := BitVec.ofNat 32 en2 }).setCpu
    { State.reset.cpu with irqMask := masked, vbarSet := true, vbar := 0x8000#32, cont := [.op (.spin 0)] })

/-- V-IC-1: a disabled source does not show in a masked pending register, and shows in an unmasked one. -/
theorem test_ic_1 : pendGpu (withIrq true 2 0 2) 1 = true ∧ pendGpu (withIrq true 0 0 2) 1 = false ∧
    pendGpu { withIrq true 0 0 2 with params := { Config.Params.reference with pendingMasked := false } } 1 = true := by decide
/-- V-IC-2: the UART in bit 19, the timer in bit 8. -/
theorem test_ic_2 : basicPending ((withIrq true 2 0x02000000 2).setUart { State.reset.uart with ris := 0x10#11, imsc := 0x50#11 }) =
    0x00080100#32 := by decide
/-- V-IC-3. -/
theorem test_ic_3 : goes (exec (.wr32EnableIrqs1 (lit 8)) (withIrq true 2 0 0)) (fun t => decide (t.intc.en1 = 0xA#32)) := by decide
theorem test_ic_3_disable : goes (exec (.wr32DisableIrqs1 (lit 2)) (withIrq true 0xA 0 0))
    (fun t => decide (t.intc.en1 = 8#32)) := by decide
/-- V-IC-4. -/
theorem test_ic_4 : refuses (exec (.wr32FiqControl (lit 0x80)) State.reset) .fiqUnmodelled := by decide
theorem test_ic_4_other : goes (exec (.wr32FiqControl (lit 0x39)) State.reset)
    (fun t => decide (t.intc.fiqc = 0x39#8)) := by decide
/-- V-IC-5: the nine primitives. -/
theorem test_ic_5 : goes (exec .irqInstall State.reset) (fun t => decide (t.cpu.cont =
    [.op (.setvbar (lit 0x8000)), .op (.wr32StCs (lit 2)), .op (.wr32UartIcr (lit 0x7FF)), .op (.wr32DisableIrqs1 (lit 0xFFFFFFFF)),
      .op (.wr32DisableIrqs2 (lit 0xFFFFFFFF)), .op (.wr32DisableBasic (lit 0xFF)), .op (.wr32EnableIrqs1 (lit 2)),
      .op (.wr32EnableIrqs2 (lit 0x02000000)), .cpsieArm])) := by decide
/-- V-IC-7, V-IC-8, V-IC-9: what the two pending values call. -/
theorem test_ic_7 : (deliver (.irqPending2 2#32) 0#32 State.reset).cpu.cont = [.op .timerOnInterrupt] ∧
    (deliver (.irqPending2 2#32) 0x02000000#32 State.reset).cpu.cont = [.op .timerOnInterrupt, .op .uartDrain] ∧
    (deliver (.irqPending2 0#32) 0#32 State.reset).cpu.cont = [] := by decide
/-- V-IC-12: the line, with the two enables of `irq_install`. -/
theorem test_ic_12 : irqLine (withIrq false 2 0x02000000 2) = true ∧ irqLine (withIrq false 2 0x02000000 0xD) = false := by decide
/-- V-EX-1. -/
theorem test_ex_1 : goes (irqEntryStep (withIrq false 2 0 2)) (fun t => decide (t.cpu =
    { ctx := .irq, irqMask := true, vbar := 0x8000#32, vbarSet := true, saved := some [.op (.spin 0)], savedMask := false,
      icPhase := .masked, cont := [.op .handleIrq, .op .iret] })) := by decide
/-- V-EX-2. -/
theorem test_ex_2 : faults (irqEntryStep ((withIrq false 2 0 2).setCpu
    { State.reset.cpu with irqMask := false, cont := [.op (.spin 0)] })) .irqWithoutTable := by decide
/-- The interrupt context, with a saved continuation. -/
def inIrq : State := withCpu fun c =>
  { c with ctx := .irq, saved := some [.op (.spin 0)], cont := [.op .iret], vbarSet := true, vbar := 0x8000#32 }
/-- V-EX-3. -/
theorem test_ex_3 : goes (exec .iret inIrq) (fun t => decide (t.cpu.ctx = .fg ∧ t.cpu.irqMask = false ∧ t.cpu.saved = none ∧
    t.cpu.cont = [.op (.spin 0)])) := by decide
/-- V-EX-5. -/
theorem test_ex_5 : refuses (exec .cpsie inIrq) .nestedEnable ∧ faults (exec .iret State.reset) .iretOutsideIrq := by decide
/-- R1002: the IRQ vector; R1012: the other vectors fault. -/
theorem test_vectors : inIrq.vectorAddress .irq = 0x8018#32 ∧
    faults (takeException .dataAbort inIrq) .unexpectedException := by decide

/-! ### UART (95 section 2.5) -/

/-- V-UART-1: the entry's word, and what a read leaves. -/
theorem test_uart_1 : rxWord (rx 0x41#8) = 0x041#32 ∧ rxWord ⟨0x41#8, true, false, false, true⟩ = 0x941#32 ∧
    popRx { State.reset.uart with rxq := [rx 0x41#8], ris := 0x50#11, rsr := 0xF#4 } (rx 0x41#8) [] =
      { State.reset.uart with rxq := [], ris := 0#11, rsr := 0#4 } := by decide
/-- V-UART-2, both cases. -/
theorem test_uart_2 : faults (exec (.wr32UartDr (lit 0x41))
    (withUart fun u => { u with lcrh := 0x10#8, txq := List.replicate 16 0#8 })) .txOverflow := by decide
theorem test_uart_2_one : faults (exec (.wr32UartDr (lit 0x41)) (withUart fun u => { u with txq := [0#8] })) .txOverflow := by
  decide
/-- V-UART-3. -/
theorem test_uart_3 : frValue State.reset.uart = 0x90#32 ∧ frMask State.reset.uart = 0xF0#32 ∧
    frValue { State.reset.uart with rxq := [rx 0#8] } = 0xC0#32 ∧
    frValue { State.reset.uart with txq := [0#8] } = 0x38#32 := by decide
/-- V-UART-4. -/
theorem test_uart_4 : ([0x00#6, 0x08#6, 0x10#6, 0x18#6, 0x20#6].map fun x =>
      Uart.rxTrig { State.reset.uart with lcrh := 0x10#8, ifls := x }) = [2, 4, 8, 12, 14] ∧
    Uart.rxTrig State.reset.uart = 1 := by decide
/-- V-UART-5. -/
theorem test_uart_5 : refuses (exec (.wr32UartIfls (lit 0x05)) State.reset) .reservedTriggerLevel ∧
    refuses (exec (.wr32UartIfls (lit 0x28)) State.reset) .reservedTriggerLevel := by decide
theorem test_uart_5_ok : goes (exec (.wr32UartIfls (lit 0x24)) State.reset) (fun t => decide (t.uart.ifls = 0x24#6)) := by decide
/-- V-UART-6. -/
theorem test_uart_6 : refuses (exec (.wr32UartCr (lit 0x0302)) State.reset) .unmodelledUartMode ∧
    refuses (exec (.wr32UartCr (lit 0x4301)) State.reset) .unmodelledUartMode ∧
    refuses (exec (.wr32UartCr (lit 0x8301)) State.reset) .unmodelledUartMode := by decide
theorem test_uart_6_ok : goes (exec (.wr32UartCr (lit 0x0381)) State.reset) (fun t => decide (t.uart.cr = 0x381#16)) := by decide
/-- R407 with R129: bits 6:3 are ignored. -/
theorem test_uart_6_reserved : goes (exec (.wr32UartCr (lit 0x0379)) State.reset)
    (fun t => decide (t.uart.cr &&& 0xFF87#16 = 0x301#16)) := by decide
/-- D57: the CTS bit rises and falls, alone. -/
theorem test_uart_cts : (uartCtsStep true (withUart fun u => { u with ris := 0x10#11 })).uart.ris = 0x12#11 ∧
    (uartCtsStep false (withUart fun u => { u with ris := 0x12#11 })).uart.ris = 0x10#11 := by decide
/-- V-UART-7, V-UART-8, V-UART-9, V-UART-12, V-UART-13: divisors. -/
theorem test_uart_7 : div64 48000000 115200 = 1667 ∧ div64 48000000 9600 = 20000 ∧ div64 3000000 115200 = 104 ∧
    div64 48000000 45 = 4266667 ∧ div64 48000000 46 = 4173913 ∧ div64 48000000 3000000 = 64 ∧
    div64 48000000 3023622 = 64 ∧ div64 48000000 3023623 = 63 := by decide
/-- V-UART-7, V-UART-8, V-UART-9, V-UART-10, V-UART-13: which divisors are good. -/
theorem test_uart_10 : ([(26, 3), (312, 32), (25, 26), (25, 27), (26, 45), (26, 46), (0, 63)].map fun d : Nat × Nat =>
      baudOk Config.Params.reference (BitVec.ofNat 16 d.1) (BitVec.ofNat 6 d.2)) =
      [true, false, false, true, true, false, false] ∧
    baudOk { Config.Params.reference with uartClkHz := 3000000 } 1#16 40#6 = true := by decide
/-- V-UART-11. -/
theorem test_uart_11 : refuses (exec (.uartInit (some (lit 0))) State.reset) .baudZero := by decide
/-- R940: the operand left out is 115200. -/
theorem test_uart_init_default : exec (.uartInit none) State.reset = exec (.uartInit (some (lit 115200))) State.reset := by rfl
/-- V-UART-12: the divisor is truncated on the write of UART_IBRD. -/
theorem test_uart_12 : goes (exec (.wr32UartIbrd (lit 66666)) State.reset) (fun t => decide (t.uart.ibrd = 1130#16)) := by decide
/-- V-UART-14: a staged divisor. -/
theorem test_uart_14 : goes (exec (.wr32UartFbrd (lit 3)) (withUart fun u =>
    { u with cr := 0#16, ibrd := 26#16, lcrEff := ⟨1#16, 40#6, 0x70#8⟩ }))
    (fun t => decide (t.uart.fbrd = 3#6 ∧ t.uart.lcrEff = ⟨1#16, 40#6, 0x70#8⟩)) := by decide
theorem test_uart_14_latched : lcrhWrite { State.reset.uart with cr := 0#16, ibrd := 26#16, fbrd := 3#6 } 0x70#8 =
    { State.reset.uart with cr := 0#16, ibrd := 26#16, fbrd := 3#6, lcrh := 0x70#8, lcrEff := ⟨26#16, 3#6, 0x70#8⟩, lcrOk := true } := by
  decide
/-- V-UART-15: a write while the UART is enabled. -/
theorem test_uart_15 : (lcrhWrite { State.reset.uart with cr := 0x301#16, lcrOk := true } 0x70#8).lcrOk = false := by decide
/-- V-UART-16: a change of FEN flushes. -/
theorem test_uart_16 : (lcrhWrite { State.reset.uart with lcrh := 0x60#8, txq := [0x41#8], rxq := [rx 0x42#8], ris := 0x40#11 } 0x70#8).txq = [] ∧
    (lcrhWrite { State.reset.uart with lcrh := 0x60#8, rxq := [rx 0x42#8], ris := 0x40#11 } 0x70#8).ris = 0#11 ∧
    (lcrhWrite { State.reset.uart with lcrh := 0x70#8, txq := [0x41#8] } 0x70#8).txq = [0x41#8] := by decide
/-- V-UART-17: an overrun marks the newest entry. -/
theorem test_uart_17 : rxPush { State.reset.uart with lcrh := 0x70#8, rxq := rxs 16 } (rx 0x99#8) =
    { State.reset.uart with
      lcrh := 0x70#8
      rxq := rxs 15 ++ [⟨0x31#8, false, false, false, true⟩]
      rsr := 8#4
      ris := 0x400#11 } := by decide
/-- V-UART-18: the trigger level 8. -/
theorem test_uart_18 : (rxPush { State.reset.uart with lcrh := 0x70#8, rxq := rxs 6 } (rx 0#8)).ris = 0#11 ∧
    (rxPush { State.reset.uart with lcrh := 0x70#8, rxq := rxs 7 } (rx 0#8)).ris = 0x10#11 ∧
    (popRx { State.reset.uart with lcrh := 0x70#8, rxq := rxs 8, ris := 0x10#11 } (rx 0x31#8) (rxs 7)).ris = 0#11 := by decide
/-- V-UART-19. -/
theorem test_uart_19 : (uartTimeoutStep (withUart fun u => { u with cr := 0x301#16, rxq := [rx 0x31#8] })).uart.ris = 0x40#11 := by
  decide
/-- V-UART-20. -/
theorem test_uart_20 : Uart.intr { State.reset.uart with ris := 0x030#11, imsc := 0x050#11 } = true ∧
    Uart.intr { State.reset.uart with ris := 0x020#11, imsc := 0x050#11 } = false := by decide
/-- V-UART-21. -/
theorem test_uart_21 : goes (exec (.wr32UartIcr (lit 0x7FF)) (withUart fun u => { u with ris := 0x4D0#11 }))
    (fun t => decide (t.uart.ris = 0#11)) := by decide
/-- V-UART-22. -/
theorem test_uart_22 : decChars 0#32 = [0x30#8] ∧ decChars 1234#32 = [0x31#8, 0x32#8, 0x33#8, 0x34#8] ∧
    decChars 4294967295#32 = [0x34#8, 0x32#8, 0x39#8, 0x34#8, 0x39#8, 0x36#8, 0x37#8, 0x32#8, 0x39#8, 0x35#8] := by decide
/-- V-UART-23. -/
theorem test_uart_23 : hexChars 0x3F201000#32 = [0x33#8, 0x46#8, 0x32#8, 0x30#8, 0x31#8, 0x30#8, 0x30#8, 0x30#8] ∧
    hexChars 0xDEADBEEF#32 = [0x44#8, 0x45#8, 0x41#8, 0x44#8, 0x42#8, 0x45#8, 0x45#8, 0x46#8] := by decide
/-- V-UART-24. -/
theorem test_uart_24 : crlf [0x68#8, 0x69#8, 0x0A#8] = [0x68#8, 0x69#8, 0x0D#8, 0x0A#8] ∧
    crlf [0x0D#8, 0x0A#8] = [0x0D#8, 0x0D#8, 0x0A#8] ∧ crlf [] = [] := by decide
/-- V-UART-26: loopback. -/
theorem test_uart_26 : goes (.next (uartTxStep [] (withUart fun u => { u with cr := 0x381#16, txq := [0x55#8] })))
    (fun t => decide (t.uart.rxq = [rx 0x55#8] ∧ t.line = State.reset.line)) := by decide
/-- V-UART-27. -/
theorem test_uart_27 : rxStatus ⟨0#8, true, false, false, false⟩ = 1#4 ∧
    goes (exec (.wr32UartRsrecr (lit 0)) (withUart fun u => { u with rsr := 1#4 })) (fun t => decide (t.uart.rsr = 0#4)) := by
  decide
/-- V-UART-28: a bad line. -/
theorem test_uart_28 : (uartTxStep [7#8, 8#8] (withUart fun u => { u with cr := 0x301#16, txq := [0x41#8] })).line =
    ⟨[7#8, 8#8], true⟩ := by decide

/-! ### CPU primitives (95 section 2.6) -/

/-- V-CPU-1. -/
theorem test_cpu_1 : refuses (exec (.setvbar (lit 0x8010)) State.reset) .vbarMisaligned ∧
    refuses (exec (.setvbar (lit 0x9000)) (withIrq true 0 0 0)) .vectorTableReinstalled := by decide
theorem test_cpu_1_ok : goes (exec (.setvbar (lit 0x8000)) State.reset)
    (fun t => decide (t.cpu.vbar = 0x8000#32 ∧ t.cpu.vbarSet = true ∧ t.cpu.irqMask = true)) := by decide
/-- V-CPU-2. -/
theorem test_cpu_2 : refuses (exec (.ldw (lit 0x00100002) .ignore) State.reset) (.misalignedAddress 0x00100002) ∧
    refuses (exec (.ldw (lit 0x3F000000) .ignore) State.reset) (.outsideRam 0x3F000000) := by decide
/-- V-CPU-3. -/
theorem test_cpu_3 : refuses (exec (.stw (lit 0x8018) (lit 0)) (withIrq true 0 0 0)) (.vectorTableWrite 0x8018) ∧
    goes (exec (.stw (lit 0x8020) (lit 0)) (withIrq true 0 0 0)) (fun t => decide (t.byteAt 0x8020 = 0#8)) := by decide
/-- V-CPU-4: the lowest byte first. -/
theorem test_cpu_4 : goes (exec (.stw (lit 0x80000) (lit 0xDEADBEEF)) State.reset) (fun t => decide (t.mem =
    [(0x80000, 0xEF#8), (0x80001, 0xBE#8), (0x80002, 0xAD#8), (0x80003, 0xDE#8)])) := by decide
theorem test_cpu_4_read : (State.reset.setMem [(0x80000, 0xEF#8), (0x80001, 0xBE#8), (0x80002, 0xAD#8), (0x80003, 0xDE#8)]).wordAt
    0x80000 = 0xDEADBEEF#32 := by decide
/-- A store of what the image holds lists nothing: the canonical form. -/
theorem test_store_image : (State.reset.putWord 0x100000 112#32).mem = [] := by decide
/-- V-CPU-7. -/
theorem test_cpu_7 : goes (exec .cpsid (withIrq false 2 0 2)) (fun t => decide (irqEnabled t = false)) := by decide
/-- Expressions (R30, R340). -/
theorem test_expressions : evalBin .sub 1#32 2#32 = 0xFFFFFFFF#32 ∧ evalBin .shl 1#32 32#32 = 0#32 ∧
    evalBin .div 7#32 2#32 = 3#32 ∧ evalExpr [(1, .bool true)] 0 (.ite (.loc 1) (.slice 15 8 (lit 0x1234)) (lit 9)) = 0x12#32 := by
  decide
/-- V-IO-7. -/
theorem test_io_7 : goes (exec (.wr32UartFr (lit 0xFFFFFFFF)) State.reset)
    (fun t => decide ((t.setCyc 0).setDraws 0 = State.reset)) := by decide
/-- V-CPU-5. -/
theorem test_cpu_5 : ∃ t, exec (.spin 150) (State.reset.setCyc 11) = .next t ∧ 161 ≤ t.cyc :=
  ⟨_, rfl, by simp only [State.retire, State.setCyc]; omega⟩

/-! ### Witnesses: for every statement with hypotheses, concrete values that meet them, clause by clause -/

/-- The reset state with a continuation and a schedule. -/
def run (ts : List Task) (q : List Config.Turn) : State := (State.reset.setCont ts).setSched q

theorem witness_DecodeReadsWhatEncodeWrites :
    (Instr.wr32UartDr (.slice 31 0 (.ite (.loc 1099511627776) (.not (lit 1)) (.bin .mod (lit 7) (.loc 0))))).wf = true ∧
      (Instr.gpioSetFunction 4294967295 7).wf = true ∧ (Instr.gpioSetPull 53 2).wf = true ∧
      (Instr.installInputHandler (.table (List.replicate 256 []))).wf = true := by
  set_option maxRecDepth 4000 in decide

theorem witness_DecodedInstructionHasItsKey :
    (decode (0x00201018#32 :: [5#32]) = .ok (.rd32UartFr (.ret (.loc 5))) [] ∧ (0x00201018#32).toNat < 0x2000000) ∧
      decode (0x800006FF#32 :: []) = .ok .iret [] ∧ ¬ (0x800006FF#32).toNat < 0x2000000 := by decide

theorem witness_TransactionIsTheInstructionOfItsKey :
    let window (t : Transaction) : Prop := ¬ (t.addr.toNat < 0x3F000000 ∨ 0x1000000 ≤ t.addr.toNat - 0x3F000000)
    (⟨.read, 0x3F201000#32, 0#32, 2⟩ : Transaction).size ≠ 4 ∧
      (⟨.read, 0x3EFFFFFC#32, 0#32, 4⟩ : Transaction).addr.toNat < 0x3F000000 ∧
      0x1000000 ≤ (⟨.write, 0x40000000#32, 0#32, 4⟩ : Transaction).addr.toNat - 0x3F000000 ∧
      window ⟨.read, 0x3F000000#32, 0#32, 4⟩ ∧ window ⟨.write, 0x3FFFFFFC#32, 0#32, 4⟩ := by decide

/-- The four cases: program text and an expansion, an operation and a primitive. -/
theorem witness_StepRunsTheDecodedInstruction :
    (run [.code [0x40003500#32] []] [.cpu]).params.mboxBuf.toNat % 16 = 0 ∧
    ((run [.code [0x40003500#32] []] [.cpu]).cpu.cont = .code [0x40003500#32] [] :: [] ∧
      decode [0x40003500#32] = .ok .timerOnInterrupt [] ∧ Instr.timerOnInterrupt.expands = true) ∧
    ((run [.code [0x80000400#32] []] [.cpu]).cpu.cont = .code [0x80000400#32] [] :: [] ∧
      decode [0x80000400#32] = .ok .cpsid [] ∧ Instr.cpsid.expands = false ∧
      (run [.code [0x80000400#32] []] [.cpu]).sched = .cpu :: []) ∧
    ((run [.op .handleIrq] []).cpu.cont = .op .handleIrq :: [] ∧ Instr.handleIrq.expands = true) ∧
    (run [.op .iret] [.cpu]).cpu.cont = .op .iret :: [] ∧ Instr.iret.expands = false ∧
      (run [.op .iret] [.cpu]).sched = .cpu :: [] := by decide

theorem witness_FinalStateStays :
    (run [.code [] [(0, .word 1#32)]] []).params.mboxBuf.toNat % 16 = 0 ∧ (run [.code [] [(0, .word 1#32)]] []).cpu.ctx = .fg ∧
      (∀ t ∈ (run [.code [] [(0, .word 1#32)]] []).cpu.cont, ∃ env, t = .code [] env) ∧
      ∀ t ∈ State.reset.cpu.cont, ∃ env, t = .code [] env :=
  ⟨by decide, rfl, by intro t ht; simp [run] at ht; exact ⟨_, ht⟩, by intro t ht; simp [State.reset] at ht⟩

/-- A state in the interrupt context, inside the invariant, whose next step is an `IRET`. -/
def returning : State :=
  (withCpu fun c =>
    { c with
      ctx := .irq, irqMask := true, saved := some [.op (.spin 0)], vbarSet := true, vbar := 0x8000#32, icPhase := .armed,
      cont := [.op .iret] }).setSched [.cpu]

theorem witness_EveryStepKeepsTheInvariant :
    Invariant returning ∧ goes (step returning) (fun t => decide (t.cpu.ctx = .fg)) = true := by
  refine ⟨?_, by decide⟩
  constructor <;> decide

/-- An entry state that is not the reset state. -/
def otherEntry : State := (((run [.op .dmb] []).setUart { State.reset.uart with lcrh := 0x10#8, rxq := rxs 16, ris := 0x10#11 }).setMbox
  { inq := List.replicate 8 7#32, outq := [], gpu := some 0#32 }).setTimer { State.reset.timer with m := 0xF#4 }

theorem witness_EntryStatesMeetTheInvariant : IsEntry otherEntry := by
  constructor
  case mem => exact ⟨by decide, fun _ _ _ => rfl⟩
  all_goals decide

theorem witness_RefusedValuesAreNeverHeld :
    LegalFields (run [.op (.wr32UartIfls (lit 0x24))] [.cpu]) ∧
      goes (step (run [.op (.wr32UartIfls (lit 0x24))] [.cpu])) (fun t => decide (t.uart.ifls = 0x24#6)) = true :=
  ⟨⟨by decide, by decide, by decide, by decide⟩, by decide⟩

theorem witness_InstalledTableAndArmedPhaseStay :
    goes (step returning) (fun _ => true) = true ∧ returning.cpu.vbarSet = true ∧ returning.cpu.icPhase = .armed := by decide

/-- Entry, return, and a step inside the interrupt context. -/
theorem witness_ContextsChangeOnlyByEntryAndReturn :
    ((withIrq false 2 0 2).cpu.ctx = .fg ∧
      goes (step ((withIrq false 2 0 2).setSched [.irqEntry])) (fun t => decide (t.cpu.ctx = .irq)) = true) ∧
    (returning.cpu.ctx = .irq ∧ returning.cpu.saved = some [.op (.spin 0)] ∧
      goes (step returning) (fun t => decide (t.cpu.ctx = .fg)) = true) ∧
    (returning.setCont [.op .cpsid]).cpu.ctx = .irq ∧ (returning.setCont [.op .cpsid]).cpu.irqMask = true ∧
      goes (step (returning.setCont [.op .cpsid])) (fun t => decide (t.cpu.ctx = .irq)) = true := by decide

theorem witness_CountersAndObservablesOnlyGrow :
    goes (step (run [.op .dmb] [.timer])) (fun t => decide (t.timer.cnt = 1#64)) = true ∧
      goes (step (run [.tickStep] [.cpu])) (fun t => decide (t.soft.tick = 1#32)) = true ∧
      goes (step ((run [.op .dmb] [.uartTx [9#8]]).setUart { State.reset.uart with cr := 0x301#16, txq := [1#8] }))
        (fun t => decide (t.line = ⟨[9#8], true⟩)) = true := by decide

/-- A step of the CPU's program and one of IRQ entry, which move the cycle count; steps that do not: the timer's, one that has no
cost, and an entry that is not enabled. -/
theorem witness_CountersAndObservablesOnlyGrow_cycles :
    let moves (s : State) : Prop := s.finished = false ∧ silentHead s = false ∧
      (s.nextTurn = .cpu ∧ s.cpu.cont ≠ [] ∨ s.nextTurn = .irqEntry ∧ irqEnabled s = true)
    let goesOn (s : State) : Prop := goes (step s) (fun _ => true) = true
    let entry (m : Nat) : State := (withIrq false 2 0 m).setSched [.irqEntry]
    (moves (run [.op .dmb] [.cpu]) ∧ goesOn (run [.op .dmb] [.cpu])) ∧ (moves (entry 2) ∧ goesOn (entry 2)) ∧
      (¬ moves (run [.op .dmb] [.timer]) ∧ goesOn (run [.op .dmb] [.timer])) ∧
      (¬ moves (run [.op .handleIrq] [.cpu]) ∧ goesOn (run [.op .handleIrq] [.cpu])) ∧ ¬ moves (entry 0) ∧ goesOn (entry 0) := by
  decide

theorem witness_ReadBindsItsLocalAlone :
    (∃ ws env, Task.code ws env ∈ (run [.op .dmb, .code [] [(4, .word 9#32)]] []).cpu.cont) ∧ (4 : Nat) ≠ 3 :=
  ⟨⟨[], [(4, .word 9#32)], by simp [run]⟩, by decide⟩

/-- The boundary pins of the registers and banks. -/
theorem witness_GpioReads :
    let g := (withGpio 0 fun g => { g with fsel := Vector.replicate 54 1#3 }).gpio
    (0 / 10 = 0 ∧ 9 / 10 = 0 ∧ 50 / 10 = 5 ∧ 53 / 10 = 5) ∧ ((31 < 32 ↔ 0 = 0) ∧ g.fsel[31] = 0b001#3) ∧
      (53 < 32 ↔ 1 = 0) ∧ (32 < 32 ↔ 1 = 0) ∧ g.fsel[53] = 0b001#3 ∧ g.fsel[32] = 0b001#3 := by decide

theorem witness_PullControlWrite :
    (State.reset.eval (lit 0xFFFFFFFF)).extractLsb' 0 2 = 3#2 ∧ (State.reset.eval (lit 0xFFFFFFFE)).extractLsb' 0 2 ≠ 3#2 ∧
      (gpio15 449).gpio.pudclk.getLsbD 14 = true ∧ (gpio15 449).cyc - (gpio15 449).gpio.clkT[14] < 150 ∧
      ¬ (gpio15 450).cyc - (gpio15 450).gpio.clkT[14] < 150 := by decide

/-- An edge of pins 0, 31 and 53, no edge of pin 32. -/
theorem witness_PullClockWrites :
    let edge (h p : Nat) (v : Word) : Prop :=
      (p < 32 ↔ h = 0) ∧ State.reset.gpio.pudclk.getLsbD p = false ∧ v.getLsbD (p % 32) = true
    edge 0 0 (State.reset.eval (lit 0x80000001)) ∧ edge 0 31 (State.reset.eval (lit 0x80000001)) ∧
      edge 1 53 (State.reset.eval (lit 0x00200000)) ∧ ¬ edge 1 32 (State.reset.eval (lit 0x00200000)) ∧
      ¬ edge 0 32 (State.reset.eval (lit 1)) ∧ State.reset.gpio.pud ≠ 3#2 ∧ 150 ≤ (gpio15 449).cyc - (gpio15 449).gpio.pudT ∧
      State.reset.cyc - State.reset.gpio.pudT < 150 := by decide

theorem witness_GpioOperationsExpand :
    (0 < 10 ∧ 9 < 10 ∧ 10 * 0 + 9 < 54 ∧ 10 * 5 + 3 < 54 ∧ ¬ 10 * 5 + 4 < 54 ∧ 7 ≤ 7) ∧
    53 < 54 ∧ (31 < 32 ∧ ¬ 53 < 31) ∧ 32 ≤ 32 ∧ 32 ≤ 53 ∧ 53 ≤ 53 ∧ ¬ 53 < 53 ∧ ¬ 32 < 32 := by decide

theorem witness_SetFunctionSetsOnePin :
    53 < 54 ∧ 7 ≤ 7 ∧ (run [.op (.gpioSetFunction 53 7), .op .dmb] []).cpu.cont = .op (.gpioSetFunction 53 7) :: [.op .dmb] := by
  decide

theorem witness_SetPullSetsThePull :
    (53 < 54 ∧ 2 ≤ 2 ∧ (run [.op (.gpioSetPull 53 2)] []).gpio.pudclk.getLsbD 53 = false ∧
      (run [.op (.gpioSetPull 53 2)] []).cpu.cont = .op (.gpioSetPull 53 2) :: []) ∧
    31 < 54 ∧ 0 ≤ 2 ∧ (run [.op (.gpioSetPull 31 0)] []).gpio.pudclk.getLsbD 31 = false ∧
      (run [.op (.gpioSetPull 31 0)] []).cpu.cont = .op (.gpioSetPull 31 0) :: [] := by decide

theorem witness_TimerTurnCountsAndMatches :
    let s := (run [.op .dmb] [.timer]).setTimer { State.reset.timer with cnt := 0xFFFFFFFFFFFFFFFF#64 }
    s.params.mboxBuf.toNat % 16 = 0 ∧ s.finished = false ∧ silentHead s = false ∧ s.sched = .timer :: [] ∧
      (s.timer.cnt + 1#64).extractLsb' 0 32 = s.timer.cmp[3] ∧
      (run [.op .dmb] [.uartCts true]).finished = false ∧ silentHead (run [.op .dmb] [.uartCts true]) = false ∧
      Config.Turn.uartCts true ≠ .cpu ∧ Config.Turn.uartCts true ≠ .irqEntry ∧
      (run [.op .dmb] [.uartCts true]).sched = .uartCts true :: [] := by decide

/-- Both distances: a compare value ahead, and one equal to the count. -/
theorem witness_MatchComesAfterTheDistance :
    State.reset.timer.m.getLsbD 1 = false ∧ State.reset.timer.cmp[1] = State.reset.timer.cnt.extractLsb' 0 32 ∧
      (timerTick State.reset.timer).m.getLsbD 1 = false ∧
      (timerTick State.reset.timer).cmp[1] ≠ (timerTick State.reset.timer).cnt.extractLsb' 0 32 := by decide

/-- The first and the middle read; equal high halves, and a wrap of the low half between the middle and the last read. -/
theorem witness_NowReadsTheCounterAtTheMiddleRead :
    let s (v : BitVec 64) := withTimer fun t => { t with cnt := v }
    ((s 1#64).timer.cnt = 1#64 ∧ (s 3#64).timer.cnt = 1#64 + BitVec.ofNat 64 2) ∧
    ((1#64).toNat + 2 + 3 < 2 ^ 64 ∧ (s 6#64).timer.cnt = 1#64 + BitVec.ofNat 64 (2 + 3) ∧
      (s 6#64).timer.cnt.extractLsb' 32 32 = (1#64).extractLsb' 32 32) ∧
    (0xFFFFFFFE#64).toNat + 1 + 1 < 2 ^ 64 ∧ (s 0x100000000#64).timer.cnt = 0xFFFFFFFE#64 + BitVec.ofNat 64 (1 + 1) ∧
      (s 0x100000000#64).timer.cnt.extractLsb' 32 32 ≠ (0xFFFFFFFE#64).extractLsb' 32 32 := by decide

/-- The values on both sides of `target` and of `start`; a wait without a wrap that ends, and V-TIM-8. -/
theorem witness_SleepLastsAtLeastItsDuration :
    ((0x100#32).toNat ≤ (0x100#32).toNat ∧ (0xFF#32).toNat < (0x100#32).toNat ∧
      (0xFFFFFEFF#32).toNat < (0xFFFFFF00#32).toNat ∧ (0xFFFFFF00#32).toNat ≤ (0xFFFFFF00#32).toNat) ∧
    (0 ≤ 5 ∧ 5 ≤ 16 ∧ 0 % 2 ^ 32 + (16#32).toNat < 2 ^ 32 ∧
      deliver (.sleepUntil (BitVec.ofNat 32 0 + 16#32)) (BitVec.ofNat 32 16) State.reset = State.reset) ∧
    4294967040 ≤ 4294967296 ∧ 4294967296 ≤ 4294967552 ∧ 2 ^ 32 ≤ 4294967040 % 2 ^ 32 + (0x200#32).toNat ∧
      deliver (.sleepWrap (BitVec.ofNat 32 4294967040) (BitVec.ofNat 32 4294967040 + 0x200#32)) (BitVec.ofNat 32 4294967296)
        State.reset = State.reset.push [.op (.rd32StClo (.sleepUntil (BitVec.ofNat 32 4294967040 + 0x200#32)))] ∧
      deliver (.sleepUntil (BitVec.ofNat 32 4294967040 + 0x200#32)) (BitVec.ofNat 32 4294967552) State.reset = State.reset := by
  decide

theorem witness_TimerInterruptTicksAndRearms :
    (run [.op .timerOnInterrupt, .op .iret] []).cpu.cont = .op .timerOnInterrupt :: [.op .iret] := by decide

theorem witness_EnableWrites :
    (State.reset.eval (lit 0x80)).getLsbD 7 = true ∧ (State.reset.eval (lit 0xFFFFFF7F)).getLsbD 7 = false := by decide

theorem witness_PendingReads :
    let s := withIrq true 0 0 3
    s.params.pendingMasked = true ∧ s.intc.en1 = 0#32 ∧ s.intc.en2 = 0#32 := by decide

theorem witness_InstallArmsTheTwoSources :
    let s := run [.op .irqInstall] []
    (s.cpu.ctx = .fg ∧ s.cpu.vbarSet = false ∧ s.params.vtAddr.toNat % 32 = 0 ∧ s.cpu.cont = .op .irqInstall :: []) ∧
      (withIrq false 2 0x02000000 2).intc.en1 = 0x00000002#32 ∧ (withIrq false 2 0x02000000 2).intc.en2 = 0x02000000#32 ∧
      (withIrq false 2 0x02000000 2).intc.enb = 0#8 := by decide

theorem witness_HandlerServesTimerThenUart :
    let table : State := State.reset.setSoft { State.reset.soft with inputHandler := .table [[0x80000100#32]] }
    (run [.op .handleIrq, .op .iret] []).cpu.cont = .op .handleIrq :: [.op .iret] ∧ State.reset.soft.inputHandler = .echo ∧
      table.soft.inputHandler = .table [[0x80000100#32]] ∧ [[0x80000100#32]][(0#8).toNat]? = some [0x80000100#32] := by decide

/-- Enabled with a table, enabled without one, and not enabled (masked). -/
theorem witness_IrqEntrySavesTheForeground :
    let s := (withIrq false 2 0 2).setSched [.irqEntry]
    let bare := s.setCpu { s.cpu with vbarSet := false }
    let masked := s.setCpu { s.cpu with irqMask := true }
    let enabled (s : State) : Prop := s.cpu.ctx = .fg ∧ s.cpu.irqMask = false ∧ irqLine s = true ∧ s.cpu.cont ≠ []
    (s.params.mboxBuf.toNat % 16 = 0 ∧ s.finished = false ∧ silentHead s = false ∧ s.sched = .irqEntry :: []) ∧
      (enabled s ∧ s.cpu.vbarSet = true) ∧
      (bare.finished = false ∧ silentHead bare = false ∧ enabled bare ∧ bare.cpu.vbarSet = false) ∧
      masked.finished = false ∧ silentHead masked = false ∧ ¬ enabled masked := by decide

theorem witness_IretRestoresTheForeground :
    State.reset.cpu.ctx = .fg ∧ returning.cpu.ctx = .irq ∧ returning.cpu.saved = some [.op (.spin 0)] := by decide

theorem witness_CpuPrimitivesActAsTheirRules :
    returning.cpu.vbarSet = true ∧ (State.reset.cpu.vbarSet = false ∧ (State.reset.eval (lit 0x8010)).toNat % 32 ≠ 0) ∧
      (State.reset.eval (lit 0xFFFFFFE0)).toNat % 32 = 0 ∧ returning.cpu.ctx = .irq ∧ State.reset.cpu.ctx = .fg := by decide

/-- The last word of RAM, the first word above it, and a misaligned address. -/
theorem witness_LoadGivesTheFourBytes :
    let at_ (a : Nat) := (State.reset.eval (lit a)).toNat
    (at_ 0x3EFFFFFC % 4 = 0 ∧ at_ 0x3EFFFFFC < State.reset.params.periphBase.toNat) ∧ at_ 0x3F000001 % 4 ≠ 0 ∧
      at_ 0x3F000000 % 4 = 0 ∧ State.reset.params.periphBase.toNat ≤ at_ 0x3F000000 := by decide

/-- The words around the installed table 0x8000 to 0x801F, and the other clauses. -/
theorem witness_StoreWritesTheFourBytes :
    let s := returning
    let at_ (a : Nat) := (s.eval (lit a)).toNat
    let inTable (a : Nat) : Prop := s.cpu.vbarSet = true ∧ s.cpu.vbar.toNat ≤ at_ a ∧ at_ a < s.cpu.vbar.toNat + 32
    s.mem.wf s.params = true ∧ (at_ 0x7FFC % 4 = 0 ∧ at_ 0x7FFC < s.params.periphBase.toNat ∧ ¬ inTable 0x7FFC) ∧
      ¬ inTable 0x8020 ∧ inTable 0x8000 ∧ inTable 0x801C ∧ at_ 0x801C % 4 = 0 ∧ at_ 0x801C < s.params.periphBase.toNat ∧
      at_ 0x8001 % 4 ≠ 0 ∧ at_ 0x3F000000 % 4 = 0 ∧ s.params.periphBase.toNat ≤ at_ 0x3F000000 := by decide

theorem witness_MailboxReads :
    State.reset.mbox.inq = [] ∧ (withMbox fun m => { m with inq := [5#32] }).mbox.inq = 5#32 :: [] := by decide

theorem witness_MailboxWriteAndCall :
    let full := withMbox fun m => { m with outq := List.replicate 8 0#32 }
    let shown : State := State.reset.setSoft { State.reset.soft with surface := some ⟨1#32, 2#32, 3#32, 4#32, 5#32⟩ }
    full.mbox.outq.length = full.params.mboxDepth ∧ State.reset.mbox.outq.length ≠ State.reset.params.mboxDepth ∧
      (0x80000000#32).getLsbD 31 = true ∧ (0x7FFFFFFF#32).getLsbD 31 = false ∧
      (0x40000000#32).getLsbD 30 = true ∧ (0xBFFFFFFF#32).getLsbD 30 = false ∧ State.reset.soft.surface = none ∧
      shown.soft.surface = some ⟨1#32, 2#32, 3#32, 4#32, 5#32⟩ := by decide

/-- The state after a GPU that succeeded: the echo waits, and the buffer holds the success code and a base (V-MB-7). -/
def answered : State :=
  ((run [.op (.rd32Mbox0Read (.mboxReply (.loc 0)))] []).setMbox ⟨[0xC0100008#32], [], none⟩).setMem
    [(0x100007, 0x80#8), (0x10004F, 0xFE#8)]

/-- The whole exchange; one with a bad code, one with a base of 0; a word of another channel, and one that echoes another
request. -/
theorem witness_MailboxExchangeGivesTheSurface :
    let s := answered
    let request := ((s.params.mboxBuf ||| s.params.busAlias) &&& 0xFFFFFFF0#32) ||| 8#32
    let word (k : Nat) : Word := s.wordAt (s.params.mboxBuf.toNat + 4 * k)
    (s.cpu.cont = .op (.rd32Mbox0Read (.mboxReply (.loc 0))) :: [] ∧ s.mbox.inq = 0xC0100008#32 :: [] ∧
      s.params.mboxBuf.toNat % 16 = 0 ∧ s.params.mboxBuf.toNat + 112 ≤ s.params.periphBase.toNat ∧ 0xC0100008#32 = request ∧
      word 1 = 0x80000000#32 ∧ word 19 ≠ 0#32) ∧
      (s.setMem [(0x100007, 0x81#8), (0x10004F, 0xFE#8)]).wordAt (0x100000 + 4) ≠ 0x80000000#32 ∧
      ((s.setMem [(0x100007, 0x80#8), (0x10004C, 0#8)]).wordAt (0x100000 + 4) = 0x80000000#32 ∧
        (s.setMem [(0x100007, 0x80#8), (0x10004C, 0#8)]).wordAt (0x100000 + 76) = 0#32) ∧
      (0x00000001#32).extractLsb' 0 4 ≠ 8#4 ∧ ¬ (0xC0200008#32).extractLsb' 0 4 ≠ 8#4 ∧ 0xC0200008#32 ≠ request := by decide

theorem witness_GpuTurns :
    let asked := withMbox fun m => { m with outq := [0xC0100008#32] }
    let taken := withMbox fun m => { m with gpu := some 0xC0100008#32 }
    let full := withMbox fun m => { m with inq := List.replicate 8 1#32, gpu := some 0xC0100008#32 }
    let high := withMbox fun m => { m with gpu := some 0xFEFFFFF8#32 }
    State.reset.mem.wf State.reset.params = true ∧ (asked.mbox.gpu = none ∧ asked.mbox.outq = 0xC0100008#32 :: []) ∧
      taken.mbox.gpu ≠ none ∧ State.reset.mbox.outq = [] ∧
      (taken.mbox.gpu = some 0xC0100008#32 ∧ taken.mbox.inq.length < taken.params.mboxDepth) ∧ State.reset.mbox.gpu = none ∧
      (high.mem.wf high.params = true ∧ high.mbox.gpu = some 0xFEFFFFF8#32 ∧ high.mbox.inq.length < high.params.mboxDepth ∧
        let buf : Nat := ((0xFEFFFFF8#32 &&& 0xFFFFFFF0#32) &&& 0x3FFFFFFF#32).toNat
        let words : List (Nat × Word) := [(3, 1#32), (3, 2#32), (4, 5#32)]
        words = [(3, 1#32)] ++ (3, 2#32) :: [(4, 5#32)] ∧ (∀ p ∈ [((4 : Nat), 5#32)], p.1 ≠ 3) ∧ 3 < 28 ∧
          buf + 4 * 3 + 4 ≤ high.params.periphBase.toNat ∧ (∀ p ∈ words, p.1 ≠ 2) ∧
          high.params.periphBase.toNat < buf + 4 * 4 + 4) ∧
      full.params.mboxDepth ≤ full.mbox.inq.length ∧ (0x7#32).extractLsb' 0 4 ≠ 8#4 ∧ (0x18#32).extractLsb' 0 4 = 8#4 := by decide

theorem witness_RequestImageStandsInTheBuffer :
    State.reset.params.wf = true ∧ State.reset.mem.atEntry State.reset.params :=
  ⟨by decide, by decide, fun _ _ _ => rfl⟩

theorem witness_BusAddressTranslatesBack :
    Config.Params.reference.wf = true ∧ (0x3FFFFFFF#32).toNat < 0x40000000 := by decide

theorem witness_FlagRegisterShowsTheFifos :
    (withUart fun u => { u with txq := [1#8] }).uart.txq ≠ [] ∧ State.reset.uart.lcrh.getLsbD 4 = false ∧
      ({ State.reset.uart with lcrh := 0x10#8 } : Uart).lcrh.getLsbD 4 = true ∧
      ([0x00#6, 0x08#6, 0x10#6, 0x18#6, 0x20#6].map fun x => x.extractLsb' 3 3) = [0#3, 1#3, 2#3, 3#3, 4#3] := by decide

theorem witness_DataRegisterPopsAndPushes :
    State.reset.uart.rxq = [] ∧ (withUart fun u => { u with rxq := [rx 0x41#8] }).uart.rxq = rx 0x41#8 :: [] ∧
      (withUart fun u => { u with txq := [0#8] }).uart.txq.length = (withUart fun u => { u with txq := [0#8] }).uart.cap ∧
      State.reset.uart.txq.length ≠ State.reset.uart.cap := by decide

theorem witness_LineControlWrites :
    (State.reset.eval (lit 0x60)).getLsbD 4 = State.reset.uart.lcrh.getLsbD 4 ∧
      (State.reset.eval (lit 0x70)).getLsbD 4 ≠ State.reset.uart.lcrh.getLsbD 4 := by decide

/-- Each refused bit of UART_CR, and the boundary levels of UART_IFLS. -/
theorem witness_UartControlWrites :
    let unmodelled (v : Nat) : Bool :=
      let x := State.reset.eval (lit v)
      x.getLsbD 1 || x.getLsbD 2 || x.getLsbD 14 || x.getLsbD 15
    let reserved (v : Nat) : Prop :=
      let x := State.reset.eval (lit v)
      4 < (x.extractLsb' 0 3).toNat ∨ 4 < (x.extractLsb' 3 3).toNat
    [2, 4, 0x4000, 0x8000].all unmodelled = true ∧ unmodelled 0x3FF9 = false ∧ reserved 0x05 ∧ reserved 0x28 ∧ ¬ reserved 0x24 := by
  decide

/-- A UART that sends, with the line configuration of `uart_init(115200)` on pins 14 and 15. -/
def online (cr : BitVec 16) (tx : List Byte) (r : List RxEntry) : State :=
  (State.reset.setGpio { State.reset.gpio with fsel := Vector.replicate 54 4#3 }).setUart
    { State.reset.uart with cr := cr, lcrh := 0x70#8, lcrEff := ⟨26#16, 3#6, 0x70#8⟩, lcrOk := true, txq := tx, rxq := r }

theorem witness_TransmitStepSendsTheOldestByte :
    let sends (s : State) : Prop := s.uart.txq = 1#8 :: [2#8] ∧ s.uart.cr.getLsbD 0 = true ∧ s.uart.cr.getLsbD 8 = true
    let bad := (online 0x301#16 [1#8, 2#8] []).setGpio State.reset.gpio
    State.reset.uart.txq = [] ∧ (online 0x300#16 [1#8] []).uart.cr.getLsbD 0 = false ∧
      (online 0x201#16 [1#8] []).uart.cr.getLsbD 8 = false ∧
      (sends (online 0x301#16 [1#8, 2#8] []) ∧ (online 0x301#16 [1#8, 2#8] []).uart.cr.getLsbD 7 = false ∧
        lineOkTx (online 0x301#16 [1#8, 2#8] []) = true) ∧
      (sends bad ∧ bad.uart.cr.getLsbD 7 = false ∧ lineOkTx bad = false) ∧
      (sends (online 0x181#16 [1#8, 2#8] []) ∧ (online 0x181#16 [1#8, 2#8] []).uart.cr.getLsbD 7 = true ∧
        (online 0x181#16 [1#8, 2#8] []).uart.cr.getLsbD 9 = false) ∧
      sends (online 0x381#16 [1#8, 2#8] (rxs 15)) ∧ (online 0x381#16 [1#8, 2#8] (rxs 15)).uart.cr.getLsbD 7 = true ∧
        (online 0x381#16 [1#8, 2#8] (rxs 15)).uart.cr.getLsbD 9 = true ∧
        (online 0x381#16 [1#8, 2#8] (rxs 15)).uart.rxq.length ≠ (online 0x381#16 [1#8, 2#8] (rxs 15)).uart.cap ∧
      sends (online 0x381#16 [1#8, 2#8] (rxs 16)) ∧ (online 0x381#16 [1#8, 2#8] (rxs 16)).uart.cr.getLsbD 7 = true ∧
        (online 0x381#16 [1#8, 2#8] (rxs 16)).uart.cr.getLsbD 9 = true ∧
        (online 0x381#16 [1#8, 2#8] (rxs 16)).uart.rxq = rxs 15 ++ [rx 0x31#8] ∧
        (online 0x381#16 [1#8, 2#8] (rxs 16)).uart.rxq.length = (online 0x381#16 [1#8, 2#8] (rxs 16)).uart.cap := by decide

/-- Off; on with room, on either line; on and full. -/
theorem witness_ReceiveStepFillsTheFifo :
    let on (s : State) : Bool := s.uart.cr.getLsbD 0 && s.uart.cr.getLsbD 9 && !s.uart.cr.getLsbD 7
    on State.reset = false ∧
      (on (online 0x301#16 [] (rxs 15)) = true ∧ lineOkRx (online 0x301#16 [] (rxs 15)) = true ∧
        (online 0x301#16 [] (rxs 15)).uart.rxq.length ≠ (online 0x301#16 [] (rxs 15)).uart.cap) ∧
      lineOkRx ((online 0x301#16 [] []).setGpio State.reset.gpio) = false ∧
      on (online 0x301#16 [] (rxs 16)) = true ∧ (online 0x301#16 [] (rxs 16)).uart.rxq = rxs 15 ++ [rx 0x31#8] ∧
        (online 0x301#16 [] (rxs 16)).uart.rxq.length = (online 0x301#16 [] (rxs 16)).uart.cap := by decide

theorem witness_DivisorIsRoundedToNearest : 0 < 1 ∧ 3023623 ≤ 3023623 ∧ ¬ 3023623 ≤ 3023622 := by decide

/-- R915 on a line that is good but for one thing: V-UART-8 and V-UART-10 (the divisor), V-UART-15 (a write while enabled), V-UART-28
(the pin), and each bit of the frame. -/
theorem test_uart_line :
    let line (i f l cr : Nat) (ok : Bool) (fsel : BitVec 3) : State :=
      (State.reset.setGpio { State.reset.gpio with fsel := Vector.replicate 54 fsel }).setUart
        { State.reset.uart with cr := BitVec.ofNat 16 cr, lcrEff := ⟨BitVec.ofNat 16 i, BitVec.ofNat 6 f, BitVec.ofNat 8 l⟩, lcrOk := ok }
    ([line 26 3 0x70 0x301 true 4, line 312 32 0x70 0x301 true 4, line 25 26 0x70 0x301 true 4, line 25 27 0x70 0x301 true 4,
        line 26 45 0x70 0x301 true 4, line 26 46 0x70 0x301 true 4, line 26 3 0x70 0x301 false 4, line 26 3 0x70 0x301 true 0,
        line 26 3 0x50 0x301 true 4, line 26 3 0x72 0x301 true 4, line 26 3 0x78 0x301 true 4, line 26 3 0x71 0x301 true 4,
        line 26 3 0x60 0x300 true 4, line 26 3 0x60 0x201 true 4, line 26 3 0x60 0x101 true 4].map fun s =>
      (lineOkTx s, lineOkRx s)) =
      [(true, true), (false, false), (false, false), (true, true), (true, true), (false, false), (false, false), (false, false),
        (false, false), (false, false), (false, false), (false, false), (false, false), (false, true), (true, false)] := by decide

theorem witness_UartInitMakesTheLineGood :
    let s (o : Option Expr) := run [.op (.uartInit o), .op .irqInstall] []
    let baud (o : Option Expr) : Word := (o.map State.reset.eval).getD 115200#32
    baud (some (lit 0)) = 0#32 ∧ baud (some (lit 1)) ≠ 0#32 ∧ baud none ≠ 0#32 ∧ (s none).params.uartClkHz = 48000000 ∧
      (s none).params.baudTolPermille = 25 ∧ (s none).cpu.cont = .op (.uartInit none) :: [.op .irqInstall] ∧
      (s (some (lit 115200))).cpu.cont = .op (.uartInit (some (.lit 115200#32))) :: [.op .irqInstall] := by decide

theorem witness_NonBlockingReceiveNeverWaits :
    (run [.op (.uartGetcNb (.loc 2)), .code [] []] []).cpu.cont = .op (.uartGetcNb (.loc 2)) :: [.code [] []] ∧
      (run [.op (.uartGetcNb (.loc 2)), .code [] []] []).uart.rxq = [] ∧
      (withUart fun u => { u with rxq := [rx 0x7A#8] }).uart.rxq = rx 0x7A#8 :: [] := by decide

/-- Thirteen bytes waiting to be sent and a burst of three: the transmit FIFO is full at the end. -/
theorem witness_DrainEchoesEveryByteInOrder :
    let s := (online 0x301#16 (List.replicate 13 0#8) (rxs 3)).setCont [.op .uartDrain, .op .iret]
    s.cpu.cont = .op .uartDrain :: [.op .iret] ∧ s.soft.inputHandler = .echo ∧
      s.uart.txq.length + s.uart.rxq.length ≤ s.uart.cap := by decide

end Sys2Proof.Tests
end

section
/-! PROOFS. Bus addresses (20_memory R230): both aliases that R20 allows lie above the mask, so the mask drops the alias and
keeps an address below 0x40000000. -/

namespace Sys2Proof.Machine

open Sys2Proof

/-- R20: the bus alias is one of two words. -/
theorem busAlias_eq_of_wf {p : Config.Params} (hp : p.wf = true) :
    p.busAlias = 0x40000000#32 ∨ p.busAlias = 0xC0000000#32 := by
  simp only [Config.Params.wf, Bool.and_eq_true, Bool.or_eq_true, beq_iff_eq] at hp
  obtain ⟨⟨⟨⟨_, halias⟩, _⟩, _⟩, _⟩ := hp
  exact halias

theorem toCpu_busAlias {p : Config.Params} (hp : p.wf = true) : toCpu p.busAlias = 0#32 := by
  obtain h | h := busAlias_eq_of_wf hp
  · rw [h]; decide
  · rw [h]; decide

/-- The mask is `2 ^ 30 - 1`, so it keeps a word of 30 bits. -/
theorem toCpu_of_lt {c : Word} (hc : c.toNat < 0x40000000) : toCpu c = c := by
  apply BitVec.eq_of_toNat_eq
  rw [toCpu, BitVec.toNat_and]
  exact Nat.and_two_pow_sub_one_of_lt_two_pow (n := 30) hc

/-- `to_cpu` acts on the address and on the alias apart. -/
theorem toCpu_toBus (p : Config.Params) (c : Word) : toCpu (toBus p c) = toCpu c ||| toCpu p.busAlias :=
  BitVec.and_or_distrib_right

theorem toCpu_toBus_of_lt {p : Config.Params} {c : Word} (hp : p.wf = true) (hc : c.toNat < 0x40000000) :
    toCpu (toBus p c) = c := by
  rw [toCpu_toBus, toCpu_busAlias hp, toCpu_of_lt hc, BitVec.or_zero]

/-- Settles O47: the two formulas are the definitions; the way back is `toCpu_toBus_of_lt`. -/
theorem busAddressTranslatesBack : Obligations.BusAddressTranslatesBack :=
  fun _ _ _ hp => ⟨rfl, rfl, toCpu_toBus_of_lt hp⟩

end Sys2Proof.Machine
end

section
/-! PROOFS. Register accesses against their direction (40_registerio R405, R406): each is dispatched to one shared operation, which
retires and does nothing else. -/

namespace Sys2Proof.Machine

open Sys2Proof

/-! ### The end of a CPU step -/

/-- 10 R104, 00 R33: a step's end moves the cycle count and the index of the next draw, and nothing else. -/
theorem State.setDraws_setCyc_retire (n : Nat) (s : State) : ((s.retire n).setCyc s.cyc).setDraws s.draws = s := rfl

/-- RAM is no part of the end of a step. -/
@[simp] theorem State.byteAt_retire (n : Nat) (s : State) (a : Nat) : (s.retire n).byteAt a = s.byteAt a := rfl

/-! ### Accesses against the direction of a register -/

theorem readWriteOnly_eq (d : Dest) (s : State) :
    readWriteOnly d s = .next (deliver d (withDraw 0#32 0#32 s) (s.retire 1)) := rfl

/-- Settles O14: every row is dispatched to `writeReadOnly`, which retires the state it was given. -/
theorem writeToReadOnlyRegisterChangesNothing : Obligations.WriteToReadOnlyRegisterChangesNothing := by
  refine ⟨fun _ => rfl, fun w hw v s => ⟨s.retire 1, ?_, retire_cyc_lt 1 s, s.setDraws_setCyc_retire 1, s.byteAt_retire 1⟩⟩
  have dispatch : exec (w v) s = writeReadOnly v s := by fin_cases hw <;> rfl
  rw [dispatch, writeReadOnly_eq]

/-- Settles O15: every row is dispatched to `readWriteOnly`, whose value is a draw in every bit. -/
theorem readOfWriteOnlyRegisterChangesNothing : Obligations.ReadOfWriteOnlyRegisterChangesNothing := by
  refine ⟨fun _ => rfl, fun r hr d s => ⟨withDraw 0#32 0#32 s, ?_, s.setDraws_setCyc_retire 1⟩⟩
  have dispatch : exec (r d) s = readWriteOnly d s := by fin_cases hr <;> rfl
  rw [dispatch, readWriteOnly_eq]

end Sys2Proof.Machine
end

section
/-! PROOFS. The CPU primitives and the return from an exception (40_registerio R420 to R425, 60_exceptions R1030): one equation for
each branch of a primitive that looks at the state. -/

namespace Sys2Proof.Machine

open Sys2Proof

/-! ### IRET (R425) -/

theorem returnException_of_fg {s : State} (h : s.cpu.ctx = .fg) : returnException s = .fault .iretOutsideIrq := by
  simp [returnException, h]

theorem returnException_of_irq {s : State} (h : s.cpu.ctx = .irq) :
    returnException s = .next ((s.setCpu { s.cpu with
      cont := s.cpu.saved.getD [], saved := none, irqMask := s.cpu.savedMask, ctx := .fg }).retire 1) :=
  if_pos h

/-- Settles O38: `IRET` is the return from the exception, which takes the continuation that was saved. -/
theorem iretRestoresTheForeground : Obligations.IretRestoresTheForeground := by
  have dispatch (s : State) : exec .iret s = returnException s := rfl
  refine ⟨rfl, fun s => ⟨fun hfg => ?_, fun c hirq hsaved => ?_, fun hirq => ?_⟩⟩
  · rw [dispatch, returnException_of_fg hfg]
  · rw [dispatch, returnException_of_irq hirq, hsaved, Option.getD_some]
  · exact ⟨_, (dispatch s).trans (returnException_of_irq hirq), rfl, rfl⟩

/-! ### SETVBAR (R421) -/

theorem execSetvbar_of_installed (a : Expr) {s : State} (h : s.cpu.vbarSet = true) :
    execSetvbar a s = .refused .vectorTableReinstalled := if_pos h

theorem execSetvbar_of_misaligned {a : Expr} {s : State} (hset : s.cpu.vbarSet = false) (ha : (s.eval a).toNat % 32 ≠ 0) :
    execSetvbar a s = .refused .vbarMisaligned := by
  rw [execSetvbar, hset, if_neg Bool.false_ne_true, if_pos ha]

theorem execSetvbar_of_aligned {a : Expr} {s : State} (hset : s.cpu.vbarSet = false) (ha : (s.eval a).toNat % 32 = 0) :
    execSetvbar a s = .next ((s.setCpu { s.cpu with vbar := s.eval a, vbarSet := true }).retire 1) := by
  rw [execSetvbar, hset, if_neg Bool.false_ne_true, if_neg (not_not_intro ha), wrote_eq]

/-! ### CPSIE (R422) -/

theorem execCpsie_of_irq {s : State} (h : s.cpu.ctx = .irq) : execCpsie s = .refused .nestedEnable := if_pos h

theorem execCpsie_of_fg {s : State} (h : s.cpu.ctx = .fg) :
    execCpsie s = .next ((s.setCpu { s.cpu with irqMask := false }).retire 1) := by
  rw [execCpsie, h, if_neg (by decide), wrote_eq]

/-- Settles O39: DMB, CPSID and SPIN have one case, SETVBAR and CPSIE the cases of the lemmas above. -/
theorem cpuPrimitivesActAsTheirRules : Obligations.CpuPrimitivesActAsTheirRules := by
  refine ⟨fun _ _ => rfl, fun n a s => ?_⟩
  have hcost : s.cyc + max n 1 ≤ (s.retire n).cyc := s.retire_cyc_le n
  have hn : s.cyc + n ≤ (s.retire n).cyc := by omega
  have hone : s.cyc + 1 ≤ (s.retire n).cyc := by omega
  exact ⟨wrote_eq s, rfl, hn, hone, s.setDraws_setCyc_retire n, wrote_eq _, execSetvbar_of_installed a, execSetvbar_of_misaligned,
    execSetvbar_of_aligned, execCpsie_of_irq, execCpsie_of_fg⟩

end Sys2Proof.Machine
end

section
/-! PROOFS. The GPIO registers (41_gpio R501 to R528): how a register's mask, word or bank numbers the pins is said once, bit by bit;
what a read gives and what a write does to a pin then follow from the laws of the shared operations. -/

namespace Sys2Proof.Machine

open Sys2Proof

/-! ### Bits of a read that are the register's -/

/-- A mask of `n` ones has each of the lowest `n` bits. -/
theorem getLsbD_lowOnes {w n i : Nat} (hi : i < n) (hn : n ≤ w) : (BitVec.ofNat w (2 ^ n - 1)).getLsbD i = true := by
  rw [BitVec.getLsbD_ofNat, Nat.testBit_two_pow_sub_one]
  simp only [hi, hi.trans_le hn, decide_true, Bool.and_self]

theorem getLsbD_withDraw_of_mask {mask : Word} {i : Nat} (hi : mask.getLsbD i = true) (v : Word) (s : State) :
    (withDraw mask v s).getLsbD i = v.getLsbD i := by
  rw [getLsbD_withDraw, if_pos hi]

/-- A field whose bits are all in the mask reads as the register's field. -/
theorem extractLsb'_withDraw {mask : Word} {lo n : Nat} (hmask : ∀ i < n, mask.getLsbD (lo + i) = true) (v : Word) (s : State) :
    (withDraw mask v s).extractLsb' lo n = v.extractLsb' lo n := by
  refine BitVec.eq_of_getLsbD_eq fun i hi => ?_
  rw [BitVec.getLsbD_extractLsb', BitVec.getLsbD_extractLsb', getLsbD_withDraw_of_mask (hmask i hi)]

/-! ### Banks of pins (R311) -/

theorem pinBank_eq_iff {h : Nat} (hh : h < 2) (p : Nat) : pinBank p = h ↔ (p < 32 ↔ h = 0) := by
  unfold pinBank
  split <;> omega

/-- A pin's bank and its bit in the bank give the pin back. -/
theorem bank_add_mod {h p : Nat} (hh : h < 2) (hp : p < 54) (hb : p < 32 ↔ h = 0) : 32 * h + p % 32 = p := by
  omega

/-- A bank's value names the pins of the bank whose bits are 1, and no other pin. -/
theorem getLsbD_bankPins_iff {h p : Nat} (hh : h < 2) (hp : p < 54) (v : Word) :
    (bankPins h v).getLsbD p = true ↔ (p < 32 ↔ h = 0) ∧ v.getLsbD (p % 32) = true := by
  obtain rfl | rfl : h = 0 ∨ h = 1 := by omega
  · by_cases hlow : p < 32
    · simp [bankPins, hp, hlow, Nat.mod_eq_of_lt hlow]
    · simp [bankPins, hlow, BitVec.getLsbD_of_ge v p (by omega)]
  · by_cases hlow : p < 32
    · simp [bankPins, hlow]
    · have hbit : p % 32 = p - 32 := by omega
      have hwidth : p - 32 < 22 := by omega
      simp [bankPins, hp, hlow, hbit, hwidth]

/-! ### Function select (R501, R502) -/

/-- The fields of the register's pins are no reserved bits. -/
theorem getLsbD_fselMask {k p i : Nat} (hp : p < 54) (hk : p / 10 = k) (hi : i < 3) :
    (fselMask k).getLsbD (3 * (p % 10) + i) = true := by
  unfold fselMask
  split
  · exact getLsbD_lowOnes (n := 12) (by omega) (by omega)
  · exact getLsbD_lowOnes (n := 30) (by omega) (by omega)

theorem getLsbD_fselWord (g : Gpio) {k b : Nat} (hb : b < 30) (hpin : 10 * k + b / 3 < 54) :
    (fselWord g k).getLsbD b = g.fsel[10 * k + b / 3].getLsbD (b % 3) := by
  have hword : b < 32 := by omega
  rw [fselWord, getLsbD_ofBits, dif_pos hpin]
  simp only [hb, hword, decide_true, Bool.true_and]

theorem extractLsb'_fselWord (g : Gpio) {k p : Nat} (hp : p < 54) (hk : p / 10 = k) :
    (fselWord g k).extractLsb' (3 * (p % 10)) 3 = g.fsel[p] := by
  refine BitVec.eq_of_getLsbD_eq fun i hi => ?_
  have hpin : 10 * k + (3 * (p % 10) + i) / 3 = p := by omega
  have hbit : (3 * (p % 10) + i) % 3 = i := by omega
  simp only [BitVec.getLsbD_extractLsb', hi, decide_true, Bool.true_and, getLsbD_fselWord g (by omega) (hpin.trans_lt hp), hpin, hbit]

theorem writeFsel_eq (k : Nat) (v : Expr) (s : State) :
    writeFsel k v s = .next ((s.setGpio { s.gpio with fsel := (fselWrite s.gpio k (s.eval v)).fsel }).retire 1) := rfl

/-! ### Levels and clock lines (R518, R519, R520) -/

theorem getLsbD_levelMask {g : Gpio} {h p : Nat} (hh : h < 2) (hp : p < 54) (hb : p < 32 ↔ h = 0) (hout : g.fsel[p] = 0b001#3) :
    (levelMask g h).getLsbD (p % 32) = true := by
  have hbit : p % 32 < 32 := Nat.mod_lt _ (by decide)
  simp only [levelMask, isOutput, getLsbD_ofBits, bank_add_mod hh hp hb, hp, hbit, hout, decide_true, dite_true, BEq.rfl, Bool.and_self]

theorem getLsbD_outputWord (g : Gpio) {h p : Nat} (hh : h < 2) (hp : p < 54) (hb : p < 32 ↔ h = 0) :
    (outputWord g h).getLsbD (p % 32) = g.out.getLsbD p := by
  have hbit : p % 32 < 32 := Nat.mod_lt _ (by decide)
  rw [outputWord, getLsbD_ofBits, bank_add_mod hh hp hb, decide_eq_true hbit, Bool.true_and]

/-- Bank 0 of the clock lines: the low word. -/
theorem getLsbD_lowBank (c : BitVec 54) {p : Nat} (hlow : p < 32) : (c.setWidth 32).getLsbD (p % 32) = c.getLsbD p := by
  simp [Nat.mod_eq_of_lt hlow, hlow]

/-- Bank 1 of the clock lines: the 22 bits above the low word. -/
theorem getLsbD_highBank (c : BitVec 54) {p : Nat} (hp : p < 54) (hhigh : ¬ p < 32) :
    ((c.extractLsb' 32 22).setWidth 32).getLsbD (p % 32) = c.getLsbD p := by
  have hbit : 32 + p % 32 = p := by omega
  simp [Nat.mod_lt, hbit, show p % 32 < 22 by omega]

/-! ### What each read gives -/

theorem readFsel_pins (k : Nat) (d : Dest) (s : State) : ∃ x, readFsel k d s = .next (deliver d x (s.retire 1)) ∧
    ∀ (p : Nat) (hp : p < 54), p / 10 = k → x.extractLsb' (3 * (p % 10)) 3 = s.gpio.fsel[p] :=
  ⟨_, readReg_eq d _ _ s, fun _ hp hk =>
    (extractLsb'_withDraw (fun _ hi => getLsbD_fselMask hp hk hi) _ s).trans (extractLsb'_fselWord s.gpio hp hk)⟩

theorem readLevels_pins {h : Nat} (hh : h < 2) (d : Dest) (s : State) : ∃ x, readLevels h d s = .next (deliver d x (s.retire 1)) ∧
    ∀ (p : Nat) (hp : p < 54), (p < 32 ↔ h = 0) → s.gpio.fsel[p] = 0b001#3 → x.getLsbD (p % 32) = s.gpio.out.getLsbD p :=
  ⟨_, readReg_eq d _ _ s, fun _ hp hb hout =>
    (getLsbD_withDraw_of_mask (getLsbD_levelMask hh hp hb hout) _ s).trans (getLsbD_outputWord s.gpio hh hp hb)⟩

theorem execRd32Gppudclk0_pins (d : Dest) (s : State) : ∃ x, execRd32Gppudclk0 d s = .next (deliver d x (s.retire 1)) ∧
    ∀ p < 32, x.getLsbD (p % 32) = s.gpio.pudclk.getLsbD p :=
  ⟨_, readReg_eq d _ _ s, fun p hlow => by rw [withDraw_all, getLsbD_lowBank _ hlow]⟩

theorem execRd32Gppudclk1_pins (d : Dest) (s : State) : ∃ x, execRd32Gppudclk1 d s = .next (deliver d x (s.retire 1)) ∧
    ∀ p < 54, ¬ p < 32 → x.getLsbD (p % 32) = s.gpio.pudclk.getLsbD p :=
  ⟨_, readReg_eq d _ _ s, fun p hp hhigh =>
    (getLsbD_withDraw_of_mask (getLsbD_lowOnes (n := 22) (by omega) (by omega)) _ s).trans (getLsbD_highBank _ hp hhigh)⟩

theorem execRd32Gppud_mode (d : Dest) (s : State) : ∃ x, execRd32Gppud d s = .next (deliver d x (s.retire 1)) ∧
    x.extractLsb' 0 2 = s.gpio.pud := by
  refine ⟨_, readReg_eq d _ _ s, (extractLsb'_withDraw (fun i hi => ?_) _ s).trans ?_⟩
  · exact getLsbD_lowOnes (n := 2) (by omega) (by omega)
  · rw [← BitVec.setWidth_eq_extractLsb' (by omega), BitVec.setWidth_setWidth_of_le _ (by omega), BitVec.setWidth_eq]

/-- Settles O16: each row is dispatched to the read of its register, and the lemma of that read gives its bits. (Under `Gpio`, so
that `gpioReads` stays the decoder's table here.) -/
theorem Gpio.gpioReads : Obligations.GpioReads := by
  refine ⟨fun _ => rfl, fun kr hkr d s => ?_, fun hr hhr d s => ?_, fun hr hhr d s => ?_, execRd32Gppud_mode⟩
  · have dispatch : exec (kr.2 d) s = readFsel kr.1 d s := by fin_cases hkr <;> rfl
    rw [dispatch]
    exact readFsel_pins kr.1 d s
  · obtain ⟨hh, dispatch⟩ : hr.1 < 2 ∧ exec (hr.2 d) s = readLevels hr.1 d s := by fin_cases hhr <;> exact ⟨by decide, rfl⟩
    rw [dispatch]
    exact readLevels_pins hh d s
  · fin_cases hhr
    · obtain ⟨x, hx, hbits⟩ := execRd32Gppudclk0_pins d s
      exact ⟨x, hx, fun p _ hb => hbits p (hb.2 rfl)⟩
    · obtain ⟨x, hx, hbits⟩ := execRd32Gppudclk1_pins d s
      exact ⟨x, hx, fun p hp hb => hbits p hp (mt hb.1 (by decide))⟩

/-! ### Function select and output writes -/

/-- Settles O17: each row is dispatched to `writeFsel`, and `fselWrite_fsel` gives the function of every pin. -/
theorem functionSelectWrites : Obligations.FunctionSelectWrites := by
  refine ⟨fun _ => rfl, fun kw hkw v s => ⟨(fselWrite s.gpio kw.1 (s.eval v)).fsel, ?_, fselWrite_fsel s.gpio kw.1 (s.eval v)⟩⟩
  have dispatch : exec (kw.2 v) s = writeFsel kw.1 v s := by fin_cases hkw <;> rfl
  rw [dispatch, writeFsel_eq]

/-- R523, R524: the latches after a write of GPSET(h). -/
theorem getLsbD_or_bankPins {h p : Nat} (hh : h < 2) (hp : p < 54) (out : BitVec 54) (v : Word) :
    (out ||| bankPins h v).getLsbD p = if (p < 32 ↔ h = 0) ∧ v.getLsbD (p % 32) = true then true else out.getLsbD p := by
  rw [BitVec.getLsbD_or, ← if_congr (getLsbD_bankPins_iff hh hp v) rfl rfl]
  cases (bankPins h v).getLsbD p <;> simp

/-- R525, R526: the latches after a write of GPCLR(h). -/
theorem getLsbD_and_not_bankPins {h p : Nat} (hh : h < 2) (hp : p < 54) (out : BitVec 54) (v : Word) :
    (out &&& ~~~(bankPins h v)).getLsbD p =
      if (p < 32 ↔ h = 0) ∧ v.getLsbD (p % 32) = true then false else out.getLsbD p := by
  rw [BitVec.getLsbD_and, BitVec.getLsbD_not, ← if_congr (getLsbD_bankPins_iff hh hp v) rfl rfl]
  cases (bankPins h v).getLsbD p <;> simp [hp]

theorem setOutputs_eq (h : Nat) (v : Expr) (s : State) :
    setOutputs h v s = .next ((s.setGpio { s.gpio with out := s.gpio.out ||| bankPins h (s.eval v) }).retire 1) := rfl

theorem clearOutputs_eq (h : Nat) (v : Expr) (s : State) :
    clearOutputs h v s = .next ((s.setGpio { s.gpio with out := s.gpio.out &&& ~~~(bankPins h (s.eval v)) }).retire 1) := rfl

/-- Settles O18: the rows of GPSET join the bank's pins to the latches, those of GPCLR take them out. -/
theorem outputSetAndClearWrites : Obligations.OutputSetAndClearWrites := by
  refine ⟨fun _ => rfl, fun hw hhw v s => ?_⟩
  fin_cases hhw
  · exact ⟨_, setOutputs_eq 0 v s, fun p hp => getLsbD_or_bankPins (by decide) hp _ _⟩
  · exact ⟨_, setOutputs_eq 1 v s, fun p hp => getLsbD_or_bankPins (by decide) hp _ _⟩
  · exact ⟨_, clearOutputs_eq 0 v s, fun p hp => getLsbD_and_not_bankPins (by decide) hp _ _⟩
  · exact ⟨_, clearOutputs_eq 1 v s, fun p hp => getLsbD_and_not_bankPins (by decide) hp _ _⟩

/-! ### Writes of the pull control (R516 b, R517) -/

theorem execWr32Gppud_of_reserved {v : Expr} {s : State} (hmode : (s.eval v).extractLsb' 0 2 = 3#2) :
    execWr32Gppud v s = .refused .reservedPud := if_pos hmode

theorem execWr32Gppud_of_ne {v : Expr} {s : State} (hmode : (s.eval v).extractLsb' 0 2 ≠ 3#2) :
    execWr32Gppud v s = .next ((s.setGpio (pudWrite s ((s.eval v).extractLsb' 0 2))).retire 1) := if_neg hmode

theorem breaksHold_iff (s : State) (p : Fin 54) :
    breaksHold s p = true ↔ s.gpio.pudclk.getLsbD p = true ∧ s.cyc - s.gpio.clkT[p] < 150 := by
  rw [breaksHold, Bool.and_eq_true, decide_eq_true_iff, Config.pudHold]

/-- Settles O19: the two branches of the write; `pudWrite_pull` gives the pull of every pin. -/
theorem pullControlWrite : Obligations.PullControlWrite := by
  refine ⟨fun _ => rfl, fun v s => ⟨execWr32Gppud_of_reserved, fun hmode =>
    ⟨(pudWrite s ((s.eval v).extractLsb' 0 2)).pull, execWr32Gppud_of_ne hmode, fun p hp => ?_⟩⟩⟩
  rw [pudWrite_pull s _ p hp]
  exact if_congr (and_congr_right' (breaksHold_iff s ⟨p, hp⟩)) rfl rfl

/-! ### Writes of the pull clocks (R516 a and c, R521, R522) -/

theorem clockEdge_iff (g : Gpio) {h : Nat} (hh : h < 2) (v : Word) (p : Nat) :
    clockEdge g h v p = true ↔ (p < 32 ↔ h = 0) ∧ g.pudclk.getLsbD p = false ∧ v.getLsbD (p % 32) = true := by
  simp only [clockEdge, Bool.and_eq_true, decide_eq_true_iff, pinBank_eq_iff hh, Bool.not_eq_true', and_assoc]

/-- R516 (a): a control not yet set up samples as `Unknown`, whatever it is; one that is set up, and is not 3, as its `decode`. -/
theorem sampledPull_eq {s : State} (h : s.gpio.pud ≠ 3#2 ∨ s.cyc - s.gpio.pudT < 150) :
    sampledPull s =
      if s.cyc - s.gpio.pudT < 150 then .unknown
      else if s.gpio.pud = 0#2 then .off else if s.gpio.pud = 1#2 then .down else .up := by
  by_cases hsetup : s.cyc - s.gpio.pudT < 150
  · rw [if_pos hsetup, sampledPull, if_neg (show ¬ Config.pudHold ≤ _ from Nat.not_le_of_lt hsetup)]
  · have hpud : s.gpio.pud ≠ 3#2 := h.resolve_right hsetup
    rw [if_neg hsetup, sampledPull, if_pos (show Config.pudHold ≤ _ from Nat.le_of_not_lt hsetup), if_neg hpud, decodePull]
    generalize s.gpio.pud = pud at hpud
    revert pud
    decide

/-- R521, R522 with R516 (a) and (c): the clock line, pull, sample and time of a pin after a write of GPPUDCLK(h). -/
theorem pudclkWrite_pin {h p : Nat} (hh : h < 2) (hp : p < 54) (s : State) (v : Word) :
    let edge : Prop := (p < 32 ↔ h = 0) ∧ s.gpio.pudclk.getLsbD p = false ∧ v.getLsbD (p % 32) = true
    let g := pudclkWrite s h v
    (g.pudclk.getLsbD p = if (p < 32 ↔ h = 0) then v.getLsbD (p % 32) else s.gpio.pudclk.getLsbD p) ∧
    (edge → g.pull[p] = sampledPull s ∧ g.cand[p] = sampledPull s ∧ g.clkT[p] = s.cyc) ∧
    (¬ edge → g.pull[p] = s.gpio.pull[p] ∧ g.cand[p] = s.gpio.cand[p] ∧ g.clkT[p] = s.gpio.clkT[p]) := by
  intro edge g
  have hedge : clockEdge s.gpio h v p = true ↔ edge := clockEdge_iff s.gpio hh v p
  refine ⟨(pudclkWrite_pudclk s h v p hp).trans (if_congr (pinBank_eq_iff hh p) rfl rfl), fun he => ?_, fun he => ?_⟩
  · have he := hedge.2 he
    exact ⟨(pudclkWrite_pull s h v p hp).trans (if_pos he), (pudclkWrite_cand s h v p hp).trans (if_pos he),
      (pudclkWrite_clkT s h v p hp).trans (if_pos he)⟩
  · have he := mt hedge.1 he
    exact ⟨(pudclkWrite_pull s h v p hp).trans (if_neg he), (pudclkWrite_cand s h v p hp).trans (if_neg he),
      (pudclkWrite_clkT s h v p hp).trans (if_neg he)⟩

/-- Settles O20: each row is dispatched to `pudclkWrite`; `pudclkWrite_pin` gives every pin, `sampledPull_eq` the sample. -/
theorem pullClockWrites : Obligations.PullClockWrites := by
  refine ⟨fun _ => rfl, fun hw hhw v s => ⟨pudclkWrite s hw.1 (s.eval v), ?_, fun p hp => ?_⟩⟩
  · fin_cases hhw <;> rfl
  · have hh : hw.1 < 2 := by fin_cases hhw <;> decide
    obtain ⟨hclk, hsample, hkeep⟩ := pudclkWrite_pin hh hp s (s.eval v)
    refine ⟨hclk, fun hedge => ?_, hkeep⟩
    obtain ⟨hpull, hcand, htime⟩ := hsample hedge
    exact ⟨hpull.trans hcand.symm, htime, fun hpud => hcand.trans (sampledPull_eq hpud)⟩

end Sys2Proof.Machine
end

section
/-! PROOFS. The mailbox (42_mailbox R600 to R604, R620, R650, R652): the request image in RAM that nothing has stored to, one
equation for each branch of a register access or of a wait that looks at the state. -/

namespace Sys2Proof.Machine

open Sys2Proof

/-! ### The request buffer (R620, 10 R112) -/

/-- The buffer of 112 bytes is the whole image: 2 words of header, 23 of tags, 3 at the end. -/
theorem length_requestImage (p : Config.Params) : (requestImage p).length = 28 := rfl

/-- Byte `j` of word `k` of the image. -/
theorem imageByte_mboxBuf_add (p : Config.Params) {k j : Nat} (hk : k < (requestImage p).length) (hj : j < 4) :
    imageByte p (p.mboxBuf.toNat + 4 * k + j) = some ((requestImage p)[k].extractLsb' (8 * j) 8) := by
  have hlen := length_requestImage p
  have hinside :
      p.mboxBuf.toNat ≤ p.mboxBuf.toNat + 4 * k + j ∧ p.mboxBuf.toNat + 4 * k + j < p.mboxBuf.toNat + 112 := by omega
  have hword : (p.mboxBuf.toNat + 4 * k + j - p.mboxBuf.toNat) / 4 = k := by omega
  have hbyte : (p.mboxBuf.toNat + 4 * k + j - p.mboxBuf.toNat) % 4 = j := by omega
  rw [imageByte, if_pos hinside, hword, hbyte, List.getElem?_eq_getElem hk, Option.map_some]

theorem State.byteAt_of_imageByte {s : State} (hm : s.mem.atEntry s.params) {a : Nat} {b : Byte}
    (hb : imageByte s.params a = some b) : s.byteAt a = b := by
  obtain ⟨_, hunlisted⟩ := hm
  rw [State.byteAt, hunlisted a b hb, hb, Option.getD_some]

theorem State.wordAt_mboxBuf_add {s : State} (hm : s.mem.atEntry s.params) {k : Nat} (hk : k < (requestImage s.params).length) :
    s.wordAt (s.params.mboxBuf.toNat + 4 * k) = (requestImage s.params)[k] := by
  have byte (j : Nat) (hj : j < 4) :
      s.byteAt (s.params.mboxBuf.toNat + 4 * k + j) = (requestImage s.params)[k].extractLsb' (8 * j) 8 :=
    s.byteAt_of_imageByte hm (imageByte_mboxBuf_add s.params hk hj)
  have lowest : s.byteAt (s.params.mboxBuf.toNat + 4 * k) = (requestImage s.params)[k].extractLsb' 0 8 := byte 0 (by decide)
  rw [State.wordAt, byte 3 (by decide), byte 2 (by decide), byte 1 (by decide), lowest]
  exact bytes_of_word _

theorem State.map_wordAt_mboxBuf {s : State} (hm : s.mem.atEntry s.params) :
    (List.range 28).map (fun k => s.wordAt (s.params.mboxBuf.toNat + 4 * k)) = requestImage s.params := by
  refine List.ext_getElem (by rw [List.length_map, List.length_range, length_requestImage]) fun k _ hk => ?_
  rw [List.getElem_map, List.getElem_range]
  exact s.wordAt_mboxBuf_add hm hk

/-- Settles O46: RAM at entry reads as the request image, and the image is the list of R620. -/
theorem requestImageStandsInTheBuffer : Obligations.RequestImageStandsInTheBuffer :=
  fun _ _ hm => (State.map_wordAt_mboxBuf hm).trans rfl

/-! ### Reads (R600 to R603) -/

theorem execRd32Mbox0Read_of_nil (d : Dest) {s : State} (h : s.mbox.inq = []) :
    execRd32Mbox0Read d s = .next (deliver d (withDraw 0#32 0#32 s) (s.retire 1)) := by
  rw [execRd32Mbox0Read, h, readReg_eq]

theorem execRd32Mbox0Read_of_cons (d : Dest) {s : State} {w : Word} {ws : List Word} (h : s.mbox.inq = w :: ws) :
    execRd32Mbox0Read d s = .next (deliver d w ((s.setMbox { s.mbox with inq := ws }).retire 1)) := by
  rw [execRd32Mbox0Read, h]
  exact readInto_eq d w _

theorem execRd32Mbox0Peek_of_nil (d : Dest) {s : State} (h : s.mbox.inq = []) :
    execRd32Mbox0Peek d s = .next (deliver d (withDraw 0#32 0#32 s) (s.retire 1)) := by
  rw [execRd32Mbox0Peek, h, readReg_eq]

theorem execRd32Mbox0Peek_of_cons (d : Dest) {s : State} {w : Word} {ws : List Word} (h : s.mbox.inq = w :: ws) :
    execRd32Mbox0Peek d s = .next (deliver d w (s.retire 1)) := by
  rw [execRd32Mbox0Peek, h]
  exact readInto_eq d w _

theorem getLsbD_mboxFlags_full (depth : Nat) (q : List Word) : (mboxFlags depth q).getLsbD 31 = decide (q.length = depth) := by
  rw [mboxFlags, getLsbD_ofBits]
  rfl

theorem getLsbD_mboxFlags_empty (depth : Nat) (q : List Word) : (mboxFlags depth q).getLsbD 30 = decide (q = []) := by
  rw [mboxFlags, getLsbD_ofBits]
  rfl

/-- R602, R603: a read of the status word of a FIFO `q`. FULL and EMPTY are the two bits that are no draws. -/
theorem readReg_mboxFlags (d : Dest) (depth : Nat) (q : List Word) (s : State) :
    ∃ x, readReg d 0xC0000000#32 (mboxFlags depth q) s = .next (deliver d x (s.retire 1)) ∧
      x.getLsbD 31 = decide (q.length = depth) ∧ x.getLsbD 30 = decide (q = []) :=
  ⟨_, readReg_eq d _ _ s, (getLsbD_withDraw_of_mask (by decide) _ s).trans (getLsbD_mboxFlags_full depth q),
    (getLsbD_withDraw_of_mask (by decide) _ s).trans (getLsbD_mboxFlags_empty depth q)⟩

/-- Settles O42: the inbound FIFO is empty or has a head, and both status words are `readReg_mboxFlags`. -/
theorem mailboxReads : Obligations.MailboxReads := by
  refine ⟨fun _ => rfl, fun d s => ⟨fun hnil => ?_, fun w ws hcons => ?_, ?_, ?_⟩⟩
  · exact ⟨_, _, execRd32Mbox0Read_of_nil d hnil, execRd32Mbox0Peek_of_nil d hnil⟩
  · exact ⟨execRd32Mbox0Read_of_cons d hcons, execRd32Mbox0Peek_of_cons d hcons⟩
  · exact readReg_mboxFlags d s.params.mboxDepth s.mbox.inq s
  · exact readReg_mboxFlags d s.params.mboxDepth s.mbox.outq s

/-! ### MBOX1_WRITE (R604) -/

theorem execWr32Mbox1Write_of_full (v : Expr) {s : State} (h : s.mbox.outq.length = s.params.mboxDepth) :
    execWr32Mbox1Write v s = .fault .mboxOverflow := if_pos h

theorem execWr32Mbox1Write_of_room (v : Expr) {s : State} (h : s.mbox.outq.length ≠ s.params.mboxDepth) :
    execWr32Mbox1Write v s = .next ((s.setMbox { s.mbox with outq := s.mbox.outq ++ [s.eval v] }).retire 1) := by
  rw [execWr32Mbox1Write, if_neg h, wrote_eq]

/-! ### The waits of mbox_call (R650) -/

/-- R313, R230: the request is the bus address of the buffer with the channel in its low four bits. -/
theorem requestWord_eq (p : Config.Params) : requestWord p = ((p.mboxBuf ||| p.busAlias) &&& 0xFFFFFFF0#32) ||| 8#32 := rfl

theorem deliver_mboxOutStatus_of_full (r : Ret) {x : Word} (s : State) (h : x.getLsbD 31 = true) :
    deliver (.mboxOutStatus r) x s = s.push [.op (.rd32Mbox1Status (.mboxOutStatus r))] := if_pos h

theorem deliver_mboxOutStatus_of_room (r : Ret) {x : Word} (s : State) (h : x.getLsbD 31 = false) :
    deliver (.mboxOutStatus r) x s =
      s.push [.op (.wr32Mbox1Write (.lit (requestWord s.params))), .op (.rd32Mbox0Status (.mboxInStatus r))] :=
  if_neg (Bool.eq_false_iff.1 h)

theorem deliver_mboxInStatus_of_empty (r : Ret) {x : Word} (s : State) (h : x.getLsbD 30 = true) :
    deliver (.mboxInStatus r) x s = s.push [.op (.rd32Mbox0Status (.mboxInStatus r))] := if_pos h

theorem deliver_mboxInStatus_of_nonempty (r : Ret) {x : Word} (s : State) (h : x.getLsbD 30 = false) :
    deliver (.mboxInStatus r) x s = s.push [.op (.rd32Mbox0Read (.mboxReply r))] := if_neg (Bool.eq_false_iff.1 h)

/-! ### get_display_surface (R652) -/

theorem execGetDisplaySurface_of_none (r : Ret) {s : State} (h : s.soft.surface = none) :
    execGetDisplaySurface r s = .fault .noSurface := by
  rw [execGetDisplaySurface, h]

theorem execGetDisplaySurface_of_some (r : Ret) {s : State} {z : DisplaySurface} (h : s.soft.surface = some z) :
    execGetDisplaySurface r s = .next (giveResult r (.surface z) s) := by
  rw [execGetDisplaySurface, h]

/-- Settles O43: the branches of the write, of the two waits and of `get_display_surface` are the lemmas above. -/
theorem mailboxWriteAndCall : Obligations.MailboxWriteAndCall := by
  refine ⟨fun _ _ => rfl, fun v r s => ⟨execWr32Mbox1Write_of_full v, execWr32Mbox1Write_of_room v, expandTo_eq _ s,
    fun _ => deliver_mboxOutStatus_of_full r s, fun x hroom => ?_, fun _ => deliver_mboxInStatus_of_empty r s,
    fun _ => deliver_mboxInStatus_of_nonempty r s, execGetDisplaySurface_of_none r, fun _ => execGetDisplaySurface_of_some r⟩⟩
  rw [← requestWord_eq]
  exact deliver_mboxOutStatus_of_room r s hroom

end Sys2Proof.Machine
end

section
/-! PROOFS. The system timer (43_timer R701 to R736): what a read gives and a write leaves, the flags after any number of timer
steps, and the run of the interrupt's operation. -/

namespace Sys2Proof.Machine

open Sys2Proof

/-! ### Reads (R701, R703 to R708) -/

theorem execRd32StCs_flags (d : Dest) (s : State) : ∃ x, execRd32StCs d s = .next (deliver d x (s.retire 1)) ∧
    x.extractLsb' 0 4 = s.timer.m := by
  refine ⟨_, readReg_eq d _ _ s, (extractLsb'_withDraw (fun i hi => ?_) _ s).trans ?_⟩
  · exact getLsbD_lowOnes (n := 4) (by omega) (by omega)
  · rw [← BitVec.setWidth_eq_extractLsb' (by omega), BitVec.setWidth_setWidth_of_le _ (by omega), BitVec.setWidth_eq]

theorem execRd32StClo_eq (d : Dest) (s : State) :
    execRd32StClo d s = .next (deliver d (s.timer.cnt.extractLsb' 0 32) (s.retire 1)) := by
  rw [execRd32StClo, readReg_eq, withDraw_all, BitVec.setWidth_eq_extractLsb' (by omega)]

theorem execRd32StChi_eq (d : Dest) (s : State) :
    execRd32StChi d s = .next (deliver d (s.timer.cnt.extractLsb' 32 32) (s.retire 1)) := by
  rw [execRd32StChi, readReg_eq, withDraw_all]

theorem readCompare_eq (n : Fin 4) (d : Dest) (s : State) :
    readCompare n d s = .next (deliver d s.timer.cmp[n] (s.retire 1)) := by
  rw [readCompare, readReg_eq, withDraw_all]

/-- Settles O24: each row is dispatched to the read of its register, and no register but ST_CS has a reserved bit. -/
theorem timerReads : Obligations.TimerReads := by
  refine ⟨fun _ => rfl, fun d s => ⟨execRd32StCs_flags d s, execRd32StClo_eq d s, execRd32StChi_eq d s, fun nr hnr => ?_⟩⟩
  have dispatch : exec (nr.2 d) s = readCompare nr.1 d s := by fin_cases hnr <;> rfl
  rw [dispatch, readCompare_eq]

/-! ### Writes (R702, R715 to R718) -/

theorem writeCompare_eq (n : Fin 4) (v : Expr) (s : State) :
    writeCompare n v s = .next ((s.setTimer { s.timer with cmp := s.timer.cmp.set n (s.eval v) }).retire 1) := wrote_eq _

theorem execWr32StCs_eq (v : Expr) (s : State) :
    execWr32StCs v s = .next ((s.setTimer { s.timer with m := s.timer.m &&& ~~~((s.eval v).setWidth 4) }).retire 1) := wrote_eq _

/-- The compare values after a write of channel `n`. -/
theorem getElem_set_compare (cmp : Vector Word 4) (n k : Fin 4) (v : Word) :
    (cmp.set n v)[k] = if k = n then v else cmp[k] := by
  rw [Fin.getElem_fin, Vector.getElem_set]
  exact if_congr (Fin.ext_iff.symm.trans eq_comm) rfl rfl

/-- R702: a flag after a write of `v` to ST_CS, whose bits 31 to 4 are ignored. -/
theorem getLsbD_cleared_flags (m : BitVec 4) (v : Word) {k : Nat} (hk : k < 4) :
    (m &&& ~~~(v.setWidth 4)).getLsbD k = (m.getLsbD k && !v.getLsbD k) := by
  simp only [BitVec.getLsbD_and, BitVec.getLsbD_not, BitVec.getLsbD_setWidth, hk, decide_true, Bool.true_and]

/-- Settles O25: each row of ST_Cn is dispatched to `writeCompare`; ST_CS masks the flags. -/
theorem timerWrites : Obligations.TimerWrites := by
  refine ⟨fun _ => rfl, fun v s => ⟨fun nw hnw => ?_, ?_⟩⟩
  · have dispatch : exec (nw.2 v) s = writeCompare nw.1 v s := by fin_cases hnw <;> rfl
    rw [dispatch, writeCompare_eq]
    exact ⟨_, rfl, fun k => getElem_set_compare s.timer.cmp nw.1 k (s.eval v)⟩
  · exact ⟨_, execWr32StCs_eq v s, fun k hk => getLsbD_cleared_flags s.timer.m (s.eval v) hk⟩

/-! ### Timer steps (R710, R711) -/

/-- R710: a timer step sets the flag of each channel whose compare value the counter's low half reaches, and clears none. -/
theorem getLsbD_timerTick_m (t : Timer) (n : Fin 4) : (timerTick t).m.getLsbD n =
    (t.m.getLsbD n || decide ((t.cnt + 1#64).extractLsb' 0 32 = t.cmp[n])) := by
  rw [timerTick, BitVec.getLsbD_or, getLsbD_ofBits, dif_pos n.isLt, decide_eq_true n.isLt, Bool.true_and,
    BitVec.setWidth_eq_extractLsb' (by omega), Fin.getElem_fin]
  rfl

theorem timerTick_iterate_cmp (t : Timer) (k : Nat) : (timerTick^[k] t).cmp = t.cmp := by
  induction k with
  | zero => rfl
  | succ k ih => rw [Function.iterate_succ_apply']; exact ih

theorem timerTick_iterate_cnt (t : Timer) (k : Nat) : (timerTick^[k] t).cnt = t.cnt + BitVec.ofNat 64 k := by
  induction k with
  | zero => exact (BitVec.add_zero _).symm
  | succ k ih =>
    have tick : (timerTick (timerTick^[k] t)).cnt = (timerTick^[k] t).cnt + 1#64 := rfl
    rw [Function.iterate_succ_apply', tick, ih, BitVec.add_assoc, BitVec.ofNat_add]

/-- The low half of a count `k` steps on is `v` just when `k` is the distance to `v` modulo 2^32. -/
theorem extractLsb'_add_ofNat_eq_iff (cnt : BitVec 64) (k : Nat) (v : Word) :
    (cnt + BitVec.ofNat 64 k).extractLsb' 0 32 = v ↔ k % 4294967296 = (v - cnt.extractLsb' 0 32).toNat := by
  rw [← BitVec.toNat_inj, BitVec.toNat_sub]
  simp only [BitVec.extractLsb'_toNat, BitVec.toNat_add, BitVec.toNat_ofNat, Nat.shiftRight_zero]
  omega

/-- R711: the number of timer steps from a count with low half `c` to the match of `v`; a whole turn of the counter when they are
equal. -/
def matchDistance (v c : Word) : Nat := if v = c then 4294967296 else (v - c).toNat

theorem toNat_sub_eq_zero_iff (v c : Word) : (v - c).toNat = 0 ↔ v = c := by
  rw [← BitVec.toNat_inj, BitVec.toNat_sub]
  omega

/-- The match never comes at the write itself. -/
theorem matchDistance_pos (v c : Word) : 0 < matchDistance v c := by
  rw [matchDistance]
  split
  case isTrue => decide
  case isFalse hne => exact Nat.pos_of_ne_zero (mt (toNat_sub_eq_zero_iff v c).1 hne)

/-- Among the steps up to `k + 1`, the one of the match is `k + 1` itself or comes before it. -/
theorem matchDistance_le_succ_iff (v c : Word) (k : Nat) :
    matchDistance v c ≤ k + 1 ↔ matchDistance v c ≤ k ∨ (k + 1) % 4294967296 = (v - c).toNat := by
  have hlt : (v - c).toNat < 4294967296 := (v - c).isLt
  rw [matchDistance]
  split
  case isTrue heq =>
    have hzero : (v - c).toNat = 0 := (toNat_sub_eq_zero_iff v c).2 heq
    omega
  case isFalse hne =>
    have hpos : (v - c).toNat ≠ 0 := mt (toNat_sub_eq_zero_iff v c).1 hne
    omega

/-- Settles O27, by induction on the number of timer steps: each step keeps a flag that is set, and sets it when the distance is its
own number. -/
theorem matchComesAfterTheDistance : Obligations.MatchComesAfterTheDistance := by
  intro t n k hclear
  show (timerTick^[k] t).m.getLsbD n = decide (matchDistance t.cmp[n] (t.cnt.extractLsb' 0 32) ≤ k)
  induction k with
  | zero =>
    rw [decide_eq_false (Nat.not_le_of_lt (matchDistance_pos _ _))]
    exact hclear
  | succ k ih =>
    rw [Function.iterate_succ_apply', getLsbD_timerTick_m, ih, timerTick_iterate_cmp, timerTick_iterate_cnt, BitVec.add_assoc,
      ← BitVec.ofNat_add, ← Bool.decide_or]
    exact decide_eq_decide.2 ((or_congr_right (extractLsb'_add_ofNat_eq_iff t.cnt (k + 1) t.cmp[n])).trans
      (matchDistance_le_succ_iff _ _ k).symm)

/-! ### Driver operations (R730 to R736) -/

/-- Settles O30: an operation is replaced by its expansion, and `ticks_ms` retires with its answer. -/
theorem timerOperationsExpand : Obligations.TimerOperationsExpand :=
  ⟨fun _ _ => rfl, fun _ _ s => ⟨expandTo_eq _ s, expandTo_eq _ s, expandTo_eq _ s, expandTo_eq _ s, expandTo_eq _ s,
    fun _ => rfl, rfl⟩⟩

theorem execTimerOnInterrupt_eq (s : State) : execTimerOnInterrupt s =
    .next (s.push [.op (.wr32StCs (.lit 0x00000002#32)), .tickStep, .op (.rd32StClo .rearm)]) := expandTo_eq _ s

theorem runTickStep_eq (s : State) :
    runTickStep s = .next ((s.setSoft { s.soft with tick := s.soft.tick + 1#32 }).retire 1) := wrote_eq _

/-- A CPU step that goes on is the first of `n + 1`. -/
theorem cpuSteps_succ_of_next {s t : State} (n : Nat) (h : cpuStep s = .next t) : cpuSteps (n + 1) s = cpuSteps n t := by
  rw [cpuSteps, h]

theorem cpuStep_of_op {s : State} {i : Instr} {ts : List Task} (h : s.cpu.cont = .op i :: ts) :
    cpuStep s = exec i (s.setCont ts) := by
  rw [cpuStep, h]
  rfl

theorem cpuSteps_succ_of_op {s t : State} {i : Instr} {ts : List Task} (n : Nat) (hcont : s.cpu.cont = .op i :: ts)
    (hexec : exec i (s.setCont ts) = .next t) : cpuSteps (n + 1) s = cpuSteps n t :=
  cpuSteps_succ_of_next n ((cpuStep_of_op hcont).trans hexec)

/-- R735, step by step: the expansion, the write of ST_CS, the tick, the read of ST_CLO, the write of ST_C1. -/
theorem cpuSteps_timerOnInterrupt {s : State} {ts : List Task} (h : s.cpu.cont = .op .timerOnInterrupt :: ts) :
    let target := s.timer.cnt.extractLsb' 0 32 + 10000#32
    let cleared := ((s.setCont ts).setTimer { s.timer with m := s.timer.m &&& ~~~((2#32).setWidth 4) }).retire 1
    let ticked := (cleared.setSoft { s.soft with tick := s.soft.tick + 1#32 }).retire 1
    cpuSteps 5 s =
      .next (((ticked.retire 1).setTimer { cleared.timer with cmp := s.timer.cmp.set (1 : Fin 4) target }).retire 1) := by
  intro target cleared ticked
  calc cpuSteps 5 s
    _ = cpuSteps 4 (s.setCont (.op (.wr32StCs (.lit 2#32)) :: .tickStep :: .op (.rd32StClo .rearm) :: ts)) :=
      cpuSteps_succ_of_op 4 h (execTimerOnInterrupt_eq _)
    _ = cpuSteps 3 (cleared.setCont (.tickStep :: .op (.rd32StClo .rearm) :: ts)) :=
      cpuSteps_succ_of_op 3 rfl (execWr32StCs_eq _ _)
    _ = cpuSteps 2 (ticked.setCont (.op (.rd32StClo .rearm) :: ts)) := cpuSteps_succ_of_next 2 (runTickStep_eq _)
    _ = cpuSteps 1 ((ticked.retire 1).setCont (.op (.wr32StC1 (.lit target)) :: ts)) :=
      cpuSteps_succ_of_op 1 rfl (execRd32StClo_eq _ _)
    _ = .next _ := cpuSteps_succ_of_op 0 rfl (writeCompare_eq 1 _ _)

/-- The word written to ST_CS has a 1 for channel 1 and for no other. -/
theorem getLsbD_cleared_channel_one (m : BitVec 4) {k : Nat} (hk : k < 4) :
    (m &&& ~~~((2#32).setWidth 4)).getLsbD k = (decide (k ≠ 1) && m.getLsbD k) := by
  have channel : ∀ j < 4, (!(2#32).getLsbD j) = decide (j ≠ 1) := by decide
  rw [getLsbD_cleared_flags m _ hk, channel k hk, Bool.and_comm]

/-- Settles O31: the run is `cpuSteps_timerOnInterrupt`; its compare values and flags are those of the two writes. -/
theorem timerInterruptTicksAndRearms : Obligations.TimerInterruptTicksAndRearms :=
  ⟨rfl, fun s _ => ⟨execTimerOnInterrupt_eq s, fun hcont =>
    ⟨_, _, _, cpuSteps_timerOnInterrupt hcont, rfl, rfl, rfl, fun k => getElem_set_compare s.timer.cmp 1 k _,
      fun _ hk => getLsbD_cleared_channel_one s.timer.m hk, rfl, rfl, rfl, rfl, rfl, rfl⟩⟩⟩

end Sys2Proof.Machine
end

section
/-! PROOFS. The interrupt controller's enables (44_intc R803, R807 to R820, R860): what a read gives and a write leaves bit by bit,
the run of `irq_install` in the stages of its source, and the IRQ line that the installed enables leave. -/

namespace Sys2Proof.Machine

open Sys2Proof

/-! ### Reads (R807, R809 to R811, R815 to R817) -/

/-- A register with `n` low bits and draws above them. -/
theorem readReg_lowBits {n : Nat} (hn : n ≤ 32) (d : Dest) (v : BitVec n) (s : State) :
    ∃ x, readReg d (BitVec.ofNat 32 (2 ^ n - 1)) (v.setWidth 32) s = .next (deliver d x (s.retire 1)) ∧
      x.extractLsb' 0 n = v := by
  refine ⟨_, readReg_eq d _ _ s, (extractLsb'_withDraw (fun i hi => ?_) _ s).trans ?_⟩
  · rw [Nat.zero_add]
    exact getLsbD_lowOnes hi hn
  · rw [← BitVec.setWidth_eq_extractLsb' hn, BitVec.setWidth_setWidth_of_le _ hn, BitVec.setWidth_eq]

/-- Settles O32: the enable and the disable register of a bank are dispatched to one read of the bank's enables. -/
theorem enableReads : Obligations.EnableReads := by
  refine ⟨fun _ => rfl, fun d s => ⟨fun r hr => ?_, fun r hr => ?_, fun r hr => ?_, ?_⟩⟩
  · have dispatch : exec (r d) s = readReg d 0xFFFFFFFF#32 s.intc.en1 s := by fin_cases hr <;> rfl
    rw [dispatch, readReg_eq, withDraw_all]
  · have dispatch : exec (r d) s = readReg d 0xFFFFFFFF#32 s.intc.en2 s := by fin_cases hr <;> rfl
    rw [dispatch, readReg_eq, withDraw_all]
  · have dispatch : exec (r d) s = readReg d 0xFF#32 (s.intc.enb.setWidth 32) s := by fin_cases hr <;> rfl
    rw [dispatch]
    exact readReg_lowBits (n := 8) (by decide) d s.intc.enb s
  · exact readReg_lowBits (n := 8) (by decide) d s.intc.fiqc s

/-! ### Writes (R808, R812 to R814, R818 to R820) -/

/-- The enables `e` of a bank after a write of `v`, to its enable register (`on`) or to its disable register. -/
def writeEnables {w : Nat} (on : Bool) (e v : BitVec w) : BitVec w := if on then e ||| v else e &&& ~~~v

/-- Either register writes one to change: a 0 bit leaves its enable. -/
theorem getLsbD_writeEnables {w : Nat} (on : Bool) (e v : BitVec w) {i : Nat} (hi : i < w) :
    (writeEnables on e v).getLsbD i = if v.getLsbD i then on else e.getLsbD i := by
  cases on with
  | false =>
    show (e &&& ~~~v).getLsbD i = _
    rw [BitVec.getLsbD_and, BitVec.getLsbD_not, decide_eq_true hi]
    cases v.getLsbD i <;> simp
  | true =>
    show (e ||| v).getLsbD i = _
    rw [BitVec.getLsbD_or]
    cases v.getLsbD i <;> simp

/-- A bank that is narrower than the word takes the word's low bits. -/
theorem getLsbD_writeEnables_setWidth {w : Nat} (on : Bool) (e : BitVec w) (v : Word) {i : Nat} (hi : i < w) :
    (writeEnables on e (v.setWidth w)).getLsbD i = if v.getLsbD i then on else e.getLsbD i := by
  rw [getLsbD_writeEnables on e _ hi, BitVec.getLsbD_setWidth, decide_eq_true hi, Bool.true_and]

theorem execWr32FiqControl_of_enabling {v : Expr} {s : State} (h : (s.eval v).getLsbD 7 = true) :
    execWr32FiqControl v s = .refused .fiqUnmodelled := if_pos h

theorem execWr32FiqControl_of_disabled {v : Expr} {s : State} (h : (s.eval v).getLsbD 7 = false) :
    execWr32FiqControl v s = .next ((s.setIntc { s.intc with fiqc := (s.eval v).extractLsb' 0 8 }).retire 1) := by
  rw [execWr32FiqControl, h, if_neg Bool.false_ne_true, wrote_eq, BitVec.setWidth_eq_extractLsb' (by decide)]

/-- Settles O33: the two rows of a bank are dispatched to `writeEnables` of that bank; FIQ_CONTROL looks at bit 7. -/
theorem enableWrites : Obligations.EnableWrites := by
  refine ⟨fun _ => rfl, fun v s => ⟨fun bw hbw => ?_, fun bw hbw => ?_, fun bw hbw => ?_,
    execWr32FiqControl_of_enabling, execWr32FiqControl_of_disabled⟩⟩
  · have dispatch : exec (bw.2 v) s =
        wrote (s.setIntc { s.intc with en1 := writeEnables bw.1 s.intc.en1 (s.eval v) }) := by fin_cases hbw <;> rfl
    exact ⟨_, dispatch, fun i hi => getLsbD_writeEnables bw.1 s.intc.en1 _ hi⟩
  · have dispatch : exec (bw.2 v) s =
        wrote (s.setIntc { s.intc with en2 := writeEnables bw.1 s.intc.en2 (s.eval v) }) := by fin_cases hbw <;> rfl
    exact ⟨_, dispatch, fun i hi => getLsbD_writeEnables bw.1 s.intc.en2 _ hi⟩
  · have dispatch : exec (bw.2 v) s =
        wrote (s.setIntc { s.intc with enb := writeEnables bw.1 s.intc.enb ((s.eval v).setWidth 8) }) := by
      fin_cases hbw <;> rfl
    exact ⟨_, dispatch, fun i hi => getLsbD_writeEnables_setWidth bw.1 s.intc.enb _ hi⟩

/-! ### The IRQ line (R803) -/

theorem irqLine_iff (s : State) : irqLine s = true ↔
    (∃ i < 64, gpuIrq s i = true ∧ gpuEnabled s i = true) ∨ ∃ j < 8, armIrq s j = true ∧ s.intc.enb.getLsbD j = true := by
  simp only [irqLine, Bool.or_eq_true, List.any_eq_true, List.mem_range, Bool.and_eq_true, and_comm]

/-- The enables of `irq_install` are those of channel 1 and of the UART. -/
theorem gpuEnabled_iff_of_installed {s : State} (h1 : s.intc.en1 = 0x00000002#32) (h2 : s.intc.en2 = 0x02000000#32) :
    ∀ i < 64, gpuEnabled s i = true ↔ i = 1 ∨ i = 57 := by
  simp only [gpuEnabled, h1, h2]
  decide

theorem irqLine_of_installed {s : State} (h1 : s.intc.en1 = 0x00000002#32) (h2 : s.intc.en2 = 0x02000000#32)
    (hb : s.intc.enb = 0#8) : irqLine s = (gpuIrq s 1 || gpuIrq s 57) := by
  have enabled := gpuEnabled_iff_of_installed h1 h2
  rw [Bool.eq_iff_iff, irqLine_iff, Bool.or_eq_true, hb]
  constructor
  · rintro (⟨i, hi, hirq, hen⟩ | ⟨j, _, _, hen⟩)
    · obtain rfl | rfl := (enabled i hi).1 hen
      · exact .inl hirq
      · exact .inr hirq
    · rw [BitVec.getLsbD_zero] at hen
      exact absurd hen Bool.false_ne_true
  · rintro (hirq | hirq)
    · exact .inl ⟨1, by decide, hirq, (enabled 1 (by decide)).2 (.inl rfl)⟩
    · exact .inl ⟨57, by decide, hirq, (enabled 57 (by decide)).2 (.inr rfl)⟩

/-! ### irq_install (R860)

Each stage is a run of writes; the cycles of its `k` steps are the `k` ends of a step. -/

theorem execIrqInstall_eq (s : State) : execIrqInstall s =
    .next (s.push [.op (.setvbar (.lit s.params.vtAddr)), .op (.wr32StCs (.lit 0x00000002#32)),
      .op (.wr32UartIcr (.lit 0x7FF#32)), .op (.wr32DisableIrqs1 (.lit 0xFFFFFFFF#32)),
      .op (.wr32DisableIrqs2 (.lit 0xFFFFFFFF#32)), .op (.wr32DisableBasic (.lit 0xFF#32)),
      .op (.wr32EnableIrqs1 (.lit 0x00000002#32)), .op (.wr32EnableIrqs2 (.lit 0x02000000#32)), .cpsieArm]) :=
  expandTo_eq _ s

theorem execWr32StCs_channelOne (s : State) : execWr32StCs (.lit 0x00000002#32) s =
    .next ((s.setTimer { s.timer with m := s.timer.m &&& 0b1101#4 }).retire 1) := by
  have others : ~~~((0x00000002#32).setWidth 4) = 0b1101#4 := by decide
  rw [← others]
  exact execWr32StCs_eq _ s

/-- A write of ones in every bit of a write-one-to-clear register leaves none set. -/
theorem and_not_allOnes {w : Nat} (e : BitVec w) : e &&& ~~~(BitVec.allOnes w) = 0#w := by
  rw [BitVec.not_allOnes, BitVec.and_zero]

theorem execWr32UartIcr_allOnes (s : State) : execWr32UartIcr (.lit 0x7FF#32) s =
    .next ((s.setUart { s.uart with ris := 0#11 }).retire 1) := by
  rw [← and_not_allOnes s.uart.ris]
  rfl

theorem execWr32DisableIrqs1_allOnes (s : State) : execWr32DisableIrqs1 (.lit 0xFFFFFFFF#32) s =
    .next ((s.setIntc { s.intc with en1 := 0#32 }).retire 1) := by
  rw [← and_not_allOnes s.intc.en1]
  rfl

theorem execWr32DisableIrqs2_allOnes (s : State) : execWr32DisableIrqs2 (.lit 0xFFFFFFFF#32) s =
    .next ((s.setIntc { s.intc with en2 := 0#32 }).retire 1) := by
  rw [← and_not_allOnes s.intc.en2]
  rfl

theorem execWr32DisableBasic_allOnes (s : State) : execWr32DisableBasic (.lit 0xFF#32) s =
    .next ((s.setIntc { s.intc with enb := 0#8 }).retire 1) := by
  rw [← and_not_allOnes s.intc.enb]
  rfl

theorem runCpsieArm_of_fg {s : State} (h : s.cpu.ctx = .fg) :
    runCpsieArm s = .next ((s.setCpu { s.cpu with irqMask := false, icPhase := .armed }).retire 1) := by
  rw [runCpsieArm, execCpsie_of_fg h]
  rfl

/-- The latches of the two sources: the timer's flag of channel 1, and every flag of the UART. -/
theorem cpuSteps_clearLatches (n : Nat) {s : State} {ts : List Task}
    (h : s.cpu.cont = .op (.wr32StCs (.lit 0x00000002#32)) :: .op (.wr32UartIcr (.lit 0x7FF#32)) :: ts) :
    cpuSteps (n + 2) s = cpuSteps n ((State.retire 1)^[2]
      (((s.setCont ts).setTimer { s.timer with m := s.timer.m &&& 0b1101#4 }).setUart { s.uart with ris := 0#11 })) := by
  calc cpuSteps (n + 2) s
    _ = cpuSteps (n + 1) (((s.setTimer { s.timer with m := s.timer.m &&& 0b1101#4 }).retire 1).setCont
          (.op (.wr32UartIcr (.lit 0x7FF#32)) :: ts)) := cpuSteps_succ_of_op (n + 1) h (execWr32StCs_channelOne _)
    _ = _ := cpuSteps_succ_of_op n rfl (execWr32UartIcr_allOnes _)

/-- A 1 in every bit of the three disable registers. -/
theorem cpuSteps_disableAll (n : Nat) {s : State} {ts : List Task}
    (h : s.cpu.cont = .op (.wr32DisableIrqs1 (.lit 0xFFFFFFFF#32)) :: .op (.wr32DisableIrqs2 (.lit 0xFFFFFFFF#32)) ::
      .op (.wr32DisableBasic (.lit 0xFF#32)) :: ts) :
    cpuSteps (n + 3) s = cpuSteps n ((State.retire 1)^[3]
      ((s.setCont ts).setIntc { s.intc with en1 := 0#32, en2 := 0#32, enb := 0#8 })) := by
  calc cpuSteps (n + 3) s
    _ = cpuSteps (n + 2) (((s.setIntc { s.intc with en1 := 0#32 }).retire 1).setCont
          (.op (.wr32DisableIrqs2 (.lit 0xFFFFFFFF#32)) :: .op (.wr32DisableBasic (.lit 0xFF#32)) :: ts)) :=
      cpuSteps_succ_of_op (n + 2) h (execWr32DisableIrqs1_allOnes _)
    _ = cpuSteps (n + 1) (((State.retire 1)^[2] (s.setIntc { s.intc with en1 := 0#32, en2 := 0#32 })).setCont
          (.op (.wr32DisableBasic (.lit 0xFF#32)) :: ts)) :=
      cpuSteps_succ_of_op (n + 1) rfl (execWr32DisableIrqs2_allOnes _)
    _ = _ := cpuSteps_succ_of_op n rfl (execWr32DisableBasic_allOnes _)

/-- With every source disabled before, the enables are what the enable registers were written. -/
theorem cpuSteps_enableSources (n : Nat) {s : State} {ts : List Task} {v1 v2 : Word} (h1 : s.intc.en1 = 0#32)
    (h2 : s.intc.en2 = 0#32)
    (h : s.cpu.cont = .op (.wr32EnableIrqs1 (.lit v1)) :: .op (.wr32EnableIrqs2 (.lit v2)) :: ts) :
    cpuSteps (n + 2) s = cpuSteps n ((State.retire 1)^[2]
      ((s.setCont ts).setIntc { s.intc with en1 := v1, en2 := v2 })) := by
  calc cpuSteps (n + 2) s
    _ = cpuSteps (n + 1) (((s.setIntc { s.intc with en1 := s.intc.en1 ||| v1 }).retire 1).setCont
          (.op (.wr32EnableIrqs2 (.lit v2)) :: ts)) := cpuSteps_succ_of_op (n + 1) h (wrote_eq _)
    _ = cpuSteps n ((State.retire 1)^[2]
          ((s.setCont ts).setIntc { s.intc with en1 := s.intc.en1 ||| v1, en2 := s.intc.en2 ||| v2 })) :=
      cpuSteps_succ_of_op n rfl (wrote_eq _)
    _ = _ := by rw [h1, h2, BitVec.zero_or, BitVec.zero_or]

/-- R860's end state, before the cycles of its nine primitives. -/
def State.installed (s : State) (ts : List Task) : State :=
  (((s.setCpu { s.cpu with
      vbar := s.params.vtAddr, vbarSet := true, irqMask := false, icPhase := .armed, cont := ts }).setTimer
    { s.timer with m := s.timer.m &&& 0b1101#4 }).setUart { s.uart with ris := 0#11 }).setIntc
    { s.intc with en1 := 0x00000002#32, en2 := 0x02000000#32, enb := 0#8 }

/-- R860, stage by stage: the expansion, the table, the latches, the disables, the enables, and `CPSIE`. -/
theorem cpuSteps_irqInstall {s : State} {ts : List Task} (hfg : s.cpu.ctx = .fg) (hset : s.cpu.vbarSet = false)
    (haligned : s.params.vtAddr.toNat % 32 = 0) (h : s.cpu.cont = .op .irqInstall :: ts) :
    cpuSteps 10 s = .next ((State.retire 1)^[9] (s.installed ts)) := by
  calc cpuSteps 10 s
    _ = cpuSteps 9 (s.setCont (installTasks s.params ++ ts)) := cpuSteps_succ_of_op 9 h (expandTo_eq _ _)
    _ = cpuSteps 8 (((s.setCpu { s.cpu with vbar := s.params.vtAddr, vbarSet := true }).retire 1).setCont
          ((installTasks s.params).tail ++ ts)) := cpuSteps_succ_of_op 8 rfl (execSetvbar_of_aligned hset haligned)
    _ = cpuSteps 6 _ := cpuSteps_clearLatches 6 rfl
    _ = cpuSteps 3 _ := cpuSteps_disableAll 3 rfl
    _ = cpuSteps 1 _ := cpuSteps_enableSources 1 rfl rfl rfl
    _ = .next _ := cpuSteps_succ_of_next 0 (runCpsieArm_of_fg hfg)

/-- Settles O35: the run is `cpuSteps_irqInstall`; the IRQ line is `irqLine_iff`, which names no parameter. -/
theorem installArmsTheTwoSources : Obligations.InstallArmsTheTwoSources :=
  ⟨rfl, execIrqInstall_eq,
    fun _ _ hfg hset haligned hcont =>
      ⟨_, cpuSteps_irqInstall hfg hset haligned hcont, rfl, rfl, rfl, rfl, rfl, rfl, rfl, rfl, rfl⟩,
    fun s => ⟨irqLine_iff s, fun _ => rfl⟩, fun _ => irqLine_of_installed⟩

end Sys2Proof.Machine
end

section
/-! PROOFS. The UART registers (45_uart R901 to R923): what a read gives and a write leaves, one equation for each branch of an
access that looks at the state; the interrupt bits and the receive status are given bit by bit. -/

namespace Sys2Proof.Machine

open Sys2Proof

/-! ### Status and control reads (R904, R907, R909, R914, R916, R918, R920, R922, R923) -/

/-- R916: bits 6 to 3 are draws (10 R129). -/
theorem execRd32UartCr_bits (d : Dest) (s : State) : ∃ x, execRd32UartCr d s = .next (deliver d x (s.retire 1)) ∧
    ∀ j < 16, j < 3 ∨ 6 < j → x.getLsbD j = s.uart.cr.getLsbD j := by
  have unreserved : ∀ j < 16, j < 3 ∨ 6 < j → (0xFF87#32).getLsbD j = true := by decide
  refine ⟨_, readReg_eq d _ _ s, fun j hj hj' => ?_⟩
  rw [getLsbD_withDraw_of_mask (unreserved j hj hj'), BitVec.getLsbD_setWidth, decide_eq_true (hj.trans (by decide)),
    Bool.true_and]

/-- Settles O48: each register but UART_CR is `n` low bits under draws, which is `readReg_lowBits`. -/
theorem uartControlReads : Obligations.UartControlReads :=
  ⟨fun _ => rfl, fun d s =>
    ⟨readReg_lowBits (n := 4) (by decide) d _ s, readReg_lowBits (n := 16) (by decide) d _ s,
      readReg_lowBits (n := 6) (by decide) d _ s, readReg_lowBits (n := 8) (by decide) d _ s, execRd32UartCr_bits d s,
      readReg_lowBits (n := 6) (by decide) d _ s, readReg_lowBits (n := 11) (by decide) d _ s,
      readReg_lowBits (n := 11) (by decide) d _ s, readReg_lowBits (n := 11) (by decide) d _ s⟩⟩

/-! ### Flags and levels (R906, R127, R901) -/

/-- R127: RXFE, TXFF, RXFF and TXFE are never draws. -/
theorem getLsbD_frMask (u : Uart) {j : Nat} (hlo : 4 ≤ j) (hhi : j ≤ 7) : (frMask u).getLsbD j = true := by
  unfold frMask
  split <;> interval_cases j <;> decide

/-- R127: BUSY is no draw while the transmit FIFO holds a byte. -/
theorem getLsbD_frMask_busy {u : Uart} (h : u.txq ≠ []) : (frMask u).getLsbD 3 = true := by
  rw [frMask, if_neg h]
  decide

theorem frValue_flags (u : Uart) :
    (frValue u).getLsbD 3 = decide (u.txq ≠ []) ∧ (frValue u).getLsbD 4 = decide (u.rxq = []) ∧
    (frValue u).getLsbD 5 = decide (u.txq.length = u.cap) ∧ (frValue u).getLsbD 6 = decide (u.rxq.length = u.cap) ∧
    (frValue u).getLsbD 7 = decide (u.txq = []) :=
  ⟨getLsbD_ofBits 32 _ 3, getLsbD_ofBits 32 _ 4, getLsbD_ofBits 32 _ 5, getLsbD_ofBits 32 _ 6, getLsbD_ofBits 32 _ 7⟩

theorem execRd32UartFr_flags (d : Dest) (s : State) : ∃ x, execRd32UartFr d s = .next (deliver d x (s.retire 1)) ∧
    (s.uart.txq ≠ [] → x.getLsbD 3 = true) ∧ x.getLsbD 4 = decide (s.uart.rxq = []) ∧
    x.getLsbD 5 = decide (s.uart.txq.length = s.uart.cap) ∧ x.getLsbD 6 = decide (s.uart.rxq.length = s.uart.cap) ∧
    x.getLsbD 7 = decide (s.uart.txq = []) := by
  obtain ⟨busy, rxfe, txff, rxff, txfe⟩ := frValue_flags s.uart
  have flag {j : Nat} (hlo : 4 ≤ j) (hhi : j ≤ 7) := getLsbD_withDraw_of_mask (getLsbD_frMask s.uart hlo hhi) (frValue s.uart) s
  refine ⟨_, readReg_eq d _ _ s, fun hbyte => ?_, (flag (by decide) (by decide)).trans rxfe,
    (flag (by decide) (by decide)).trans txff, (flag (by decide) (by decide)).trans rxff,
    (flag (by decide) (by decide)).trans txfe⟩
  rw [getLsbD_withDraw_of_mask (getLsbD_frMask_busy hbyte), busy, decide_eq_true hbyte]

theorem Uart.levels_of_fifosOff {u : Uart} (h : u.lcrh.getLsbD 4 = false) : u.cap = 1 ∧ u.rxTrig = 1 :=
  ⟨if_neg (Bool.eq_false_iff.1 h), if_neg (Bool.eq_false_iff.1 h)⟩

theorem Uart.cap_of_fifosOn {u : Uart} (h : u.lcrh.getLsbD 4 = true) : u.cap = 16 := if_pos h

/-- R901: the RXIFLSEL codes that a write can make are 1/8, 1/4, 1/2, 3/4 and 7/8 of the sixteen entries. -/
theorem Uart.rxTrig_of_fifosOn {u : Uart} (h : u.lcrh.getLsbD 4 = true) :
    ∀ kl ∈ [(0#3, 2), (1#3, 4), (2#3, 8), (3#3, 12), (4#3, 14)], u.ifls.extractLsb' 3 3 = kl.1 → u.rxTrig = kl.2 := by
  intro kl hkl hcode
  rw [Uart.rxTrig, if_pos (show u.fifosOn = true from h), hcode, Uart.cap_of_fifosOn h]
  fin_cases hkl <;> rfl

/-- Settles O49: the flags are `execRd32UartFr_flags`; FEN decides the levels. -/
theorem flagRegisterShowsTheFifos : Obligations.FlagRegisterShowsTheFifos :=
  ⟨fun _ => rfl, execRd32UartFr_flags, fun _ =>
    ⟨Uart.levels_of_fifosOff, fun hfen => ⟨Uart.cap_of_fifosOn hfen, Uart.rxTrig_of_fifosOn hfen⟩⟩⟩

/-! ### UART_DR (R902, R903, R132) -/

theorem execRd32UartDr_of_nil (d : Dest) {s : State} (h : s.uart.rxq = []) :
    execRd32UartDr d s = .next (deliver d (withDraw 0#32 0#32 s) (s.retire 1)) := by
  rw [execRd32UartDr, h, readReg_eq]

theorem execRd32UartDr_of_cons (d : Dest) {s : State} {e : RxEntry} {rest : List RxEntry} (h : s.uart.rxq = e :: rest) :
    execRd32UartDr d s =
      .next (deliver d (withDraw 0xFFF#32 (rxWord e) s) ((s.setUart (popRx s.uart e rest)).retire 1)) := by
  rw [execRd32UartDr, h]
  exact readInto_eq d _ _

/-- The twelve bits that R132 gives are no draws. -/
theorem getLsbD_withDraw_rxWord (e : RxEntry) (s : State) {j : Nat} (hj : j < 12) :
    (withDraw 0xFFF#32 (rxWord e) s).getLsbD j = (rxWord e).getLsbD j :=
  getLsbD_withDraw_of_mask (getLsbD_lowOnes (n := 12) hj (by decide)) _ s

/-- R132: the error bits stand above the data. -/
theorem getLsbD_rxWord (e : RxEntry) (j : Nat) : (rxWord e).getLsbD j =
    if j = 11 then e.oe else if j = 10 then e.be else if j = 9 then e.pe else if j = 8 then e.fe
    else (e.data.setWidth 32).getLsbD j := by
  simp only [rxWord, getLsbD_putBit, Nat.reduceLT, decide_true, Bool.true_and]

theorem extractLsb'_rxWord_data (e : RxEntry) : (rxWord e).extractLsb' 0 8 = e.data := by
  refine BitVec.eq_of_getLsbD_eq fun j hj => ?_
  have hdata : j ≠ 11 ∧ j ≠ 10 ∧ j ≠ 9 ∧ j ≠ 8 ∧ j < 32 := by omega
  simp only [BitVec.getLsbD_extractLsb', Nat.zero_add, getLsbD_rxWord, BitVec.getLsbD_setWidth, hj, hdata, decide_true,
    Bool.true_and, if_false]

theorem extractLsb'_withDraw_rxWord_data (e : RxEntry) (s : State) :
    (withDraw 0xFFF#32 (rxWord e) s).extractLsb' 0 8 = e.data := by
  have data : ∀ i < 8, (0xFFF#32).getLsbD (0 + i) = true := by decide
  rw [extractLsb'_withDraw data, extractLsb'_rxWord_data]

theorem getLsbD_rxStatus (e : RxEntry) (j : Nat) : (rxStatus e).getLsbD j =
    if j = 3 then e.oe else if j = 2 then e.be else if j = 1 then e.pe else if j = 0 then e.fe else false := by
  simp only [rxStatus, getLsbD_putBit, Nat.reduceLT, decide_true, Bool.true_and, BitVec.getLsbD_zero]

/-- Bit `i` of the interrupt bits is cleared if `c` holds, and no other is. -/
theorem getLsbD_clear_if (r : BitVec 11) (c : Prop) [Decidable c] (i j : Nat) :
    (if c then putBit r i false else r).getLsbD j = (r.getLsbD j && !decide (j = i ∧ c)) := by
  by_cases hc : c
  · by_cases hj : j = i <;> simp [hc, hj, getLsbD_putBit]
  · simp [hc]

/-- R902, R962, R963: a pop clears RX below the trigger level and RT when nothing is left. -/
theorem getLsbD_popRx_ris (u : Uart) (e : RxEntry) (rest : List RxEntry) (j : Nat) : (popRx u e rest).ris.getLsbD j =
    (u.ris.getLsbD j && !decide (j = 4 ∧ rest.length < u.rxTrig) && !decide (j = 6 ∧ rest = [])) := by
  show (if rest = [] then putBit (if rest.length < u.rxTrig then putBit u.ris 4 false else u.ris) 6 false
    else if rest.length < u.rxTrig then putBit u.ris 4 false else u.ris).getLsbD j = _
  rw [getLsbD_clear_if, getLsbD_clear_if]

theorem execWr32UartDr_of_full (v : Expr) {s : State} (h : s.uart.txq.length = s.uart.cap) :
    execWr32UartDr v s = .fault .txOverflow := if_pos h

theorem execWr32UartDr_of_room (v : Expr) {s : State} (h : s.uart.txq.length ≠ s.uart.cap) : execWr32UartDr v s =
    .next ((s.setUart { s.uart with txq := s.uart.txq ++ [(s.eval v).extractLsb' 0 8] }).retire 1) := by
  rw [execWr32UartDr, if_neg h, wrote_eq, BitVec.setWidth_eq_extractLsb' (by decide)]

/-- Settles O50: the receive FIFO is empty or has a head, the transmit FIFO is full or has room. -/
theorem dataRegisterPopsAndPushes : Obligations.DataRegisterPopsAndPushes := by
  refine ⟨fun _ _ => rfl, fun d v s => ⟨fun hnil => ⟨_, execRd32UartDr_of_nil d hnil⟩, fun e rest hcons => ?_,
    execWr32UartDr_of_full v, execWr32UartDr_of_room v⟩⟩
  have bit {j : Nat} (hj : j < 12) := (getLsbD_withDraw_rxWord e s hj).trans (getLsbD_rxWord e j)
  exact ⟨_, _, _, execRd32UartDr_of_cons d hcons, extractLsb'_withDraw_rxWord_data e s,
    bit (j := 8) (by decide), bit (j := 9) (by decide), bit (j := 10) (by decide), bit (j := 11) (by decide),
    getLsbD_rxStatus e 0, getLsbD_rxStatus e 1, getLsbD_rxStatus e 2, getLsbD_rxStatus e 3,
    fun j _ => getLsbD_popRx_ris s.uart e rest j⟩

/-! ### Line control writes (R908, R910, R912, R913) -/

/-- R913: a write of a divisor register while the UART is enabled spoils the line control, and repairs none. -/
theorem lcrOk_divisorWrite (on ok : Bool) : (if on then false else ok) = (ok && !on) := by
  cases on <;> simp

theorem execWr32UartIbrd_eq (v : Expr) (s : State) : execWr32UartIbrd v s = .next ((s.setUart
    { s.uart with ibrd := (s.eval v).extractLsb' 0 16, lcrOk := s.uart.lcrOk && !s.uart.cr.getLsbD 0 }).retire 1) := by
  rw [← lcrOk_divisorWrite, ← BitVec.setWidth_eq_extractLsb' (by decide)]
  exact wrote_eq _

theorem execWr32UartFbrd_eq (v : Expr) (s : State) : execWr32UartFbrd v s = .next ((s.setUart
    { s.uart with fbrd := (s.eval v).extractLsb' 0 6, lcrOk := s.uart.lcrOk && !s.uart.cr.getLsbD 0 }).retire 1) := by
  rw [← lcrOk_divisorWrite, ← BitVec.setWidth_eq_extractLsb' (by decide)]
  exact wrote_eq _

theorem execWr32UartLcrh_eq (v : Expr) (s : State) : execWr32UartLcrh v s =
    .next ((s.setUart (lcrhWrite s.uart ((s.eval v).extractLsb' 0 8))).retire 1) := by
  rw [← BitVec.setWidth_eq_extractLsb' (by decide)]
  exact wrote_eq _

/-- What the value of FEN does not matter to: the three registers are latched, and the rest stays. -/
theorem lcrhWrite_latches (u : Uart) (l : BitVec 8) :
    let u' := lcrhWrite u l
    u'.lcrh = l ∧ u'.lcrOk = !u.cr.getLsbD 0 ∧ u'.lcrEff = ⟨u.ibrd, u.fbrd, l⟩ ∧ u'.ibrd = u.ibrd ∧ u'.fbrd = u.fbrd ∧
      u'.cr = u.cr ∧ u'.ifls = u.ifls ∧ u'.imsc = u.imsc ∧ u'.rsr = u.rsr := by
  simp only [lcrhWrite]
  split <;> exact ⟨rfl, rfl, rfl, rfl, rfl, rfl, rfl, rfl, rfl⟩

theorem lcrhWrite_of_sameFen {u : Uart} {l : BitVec 8} (h : l.getLsbD 4 = u.lcrh.getLsbD 4) :
    (lcrhWrite u l).txq = u.txq ∧ (lcrhWrite u l).rxq = u.rxq ∧ (lcrhWrite u l).ris = u.ris := by
  rw [lcrhWrite, if_pos (show l.getLsbD 4 = u.fifosOn from h)]
  exact ⟨rfl, rfl, rfl⟩

theorem lcrhWrite_of_changedFen {u : Uart} {l : BitVec 8} (h : l.getLsbD 4 ≠ u.lcrh.getLsbD 4) :
    (lcrhWrite u l).txq = [] ∧ (lcrhWrite u l).rxq = [] ∧
      (lcrhWrite u l).ris = putBit (putBit u.ris risRx false) risRt false := by
  rw [lcrhWrite, if_neg (show ¬ l.getLsbD 4 = u.fifosOn from h)]
  exact ⟨rfl, rfl, rfl⟩

/-- R912: the interrupt bits that a flush clears. -/
theorem getLsbD_flushed_ris (r : BitVec 11) (j : Nat) : (putBit (putBit r risRx false) risRt false).getLsbD j =
    (r.getLsbD j && decide (j ≠ 4) && decide (j ≠ 6)) := by
  rw [getLsbD_putBit, getLsbD_putBit]
  by_cases hrt : j = 6
  · simp [hrt, risRt]
  · by_cases hrx : j = 4 <;> simp [hrt, hrx, risRt, risRx]

/-- Settles O51: the written FEN is the one held or another; the rest of the write is `lcrhWrite_latches`. -/
theorem lineControlWrites : Obligations.LineControlWrites := by
  refine ⟨fun _ => rfl, fun v s => ⟨execWr32UartIbrd_eq v s, execWr32UartFbrd_eq v s, _, execWr32UartLcrh_eq v s, ?_⟩⟩
  obtain ⟨hlcrh, hok, heff, hkept⟩ := lcrhWrite_latches s.uart ((s.eval v).extractLsb' 0 8)
  have fen : ((s.eval v).extractLsb' 0 8).getLsbD 4 = (s.eval v).getLsbD 4 := by
    rw [BitVec.getLsbD_extractLsb', decide_eq_true (by decide), Bool.true_and]
  refine ⟨hlcrh, hok, heff, fun hsame => lcrhWrite_of_sameFen (fen.trans hsame), fun hchanged => ?_, hkept⟩
  obtain ⟨htx, hrx, hris⟩ := lcrhWrite_of_changedFen (fen.trans_ne hchanged)
  exact ⟨htx, hrx, fun j _ => by rw [hris, getLsbD_flushed_ris]⟩

/-! ### Control and interrupt writes (R905, R911, R917, R919, R921) -/

theorem execWr32UartCr_of_unmodelled {v : Expr} {s : State} (h : ((s.eval v).getLsbD 1 || (s.eval v).getLsbD 2 ||
    (s.eval v).getLsbD 14 || (s.eval v).getLsbD 15) = true) : execWr32UartCr v s = .refused .unmodelledUartMode := if_pos h

theorem execWr32UartCr_of_modelled {v : Expr} {s : State} (h : ((s.eval v).getLsbD 1 || (s.eval v).getLsbD 2 ||
    (s.eval v).getLsbD 14 || (s.eval v).getLsbD 15) = false) : execWr32UartCr v s =
      .next ((s.setUart { s.uart with cr := (s.eval v).setWidth 16 &&& 0xFF87#16 }).retire 1) := by
  rw [execWr32UartCr, if_neg (Bool.eq_false_iff.1 h), wrote_eq]

/-- R917: the bits of UART_CR that are not reserved are those written. -/
theorem getLsbD_crWrite (x : Word) {j : Nat} (hj : j < 16) (hj' : j < 3 ∨ 6 < j) :
    (x.setWidth 16 &&& 0xFF87#16).getLsbD j = x.getLsbD j := by
  have unreserved : ∀ j < 16, j < 3 ∨ 6 < j → (0xFF87#16).getLsbD j = true := by decide
  rw [BitVec.getLsbD_and, unreserved j hj hj', Bool.and_true, BitVec.getLsbD_setWidth, decide_eq_true hj, Bool.true_and]

theorem execWr32UartIfls_of_reserved {v : Expr} {s : State}
    (h : 4 < ((s.eval v).extractLsb' 0 3).toNat ∨ 4 < ((s.eval v).extractLsb' 3 3).toNat) :
    execWr32UartIfls v s = .refused .reservedTriggerLevel := if_pos h

theorem execWr32UartIfls_of_level {v : Expr} {s : State}
    (h : ¬ (4 < ((s.eval v).extractLsb' 0 3).toNat ∨ 4 < ((s.eval v).extractLsb' 3 3).toNat)) :
    execWr32UartIfls v s = .next ((s.setUart { s.uart with ifls := (s.eval v).extractLsb' 0 6 }).retire 1) := by
  rw [execWr32UartIfls, if_neg h, wrote_eq, BitVec.setWidth_eq_extractLsb' (by decide)]

theorem execWr32UartImsc_eq (v : Expr) (s : State) : execWr32UartImsc v s =
    .next ((s.setUart { s.uart with imsc := (s.eval v).extractLsb' 0 11 }).retire 1) := by
  rw [← BitVec.setWidth_eq_extractLsb' (by decide)]
  exact wrote_eq _

/-- R911: an interrupt bit after a write of `v` to UART_ICR. -/
theorem getLsbD_cleared_ris (ris : BitVec 11) (v : Word) {j : Nat} (hj : j < 11) :
    (ris &&& ~~~(v.setWidth 11)).getLsbD j = (ris.getLsbD j && !v.getLsbD j) := by
  simp only [BitVec.getLsbD_and, BitVec.getLsbD_not, BitVec.getLsbD_setWidth, hj, decide_true, Bool.true_and]

/-- Settles O52: the two branches of UART_CR and of UART_IFLS; the other writes have one. -/
theorem uartControlWrites : Obligations.UartControlWrites :=
  ⟨fun _ => rfl, fun v s =>
    ⟨execWr32UartCr_of_unmodelled, fun hmodelled =>
        ⟨_, execWr32UartCr_of_modelled hmodelled, fun _ hj hj' => getLsbD_crWrite (s.eval v) hj hj'⟩,
      execWr32UartIfls_of_reserved, execWr32UartIfls_of_level, execWr32UartImsc_eq v s, wrote_eq _,
      _, wrote_eq _, fun _ hj => getLsbD_cleared_ris s.uart.ris (s.eval v) hj⟩⟩

end Sys2Proof.Machine
end

section
/-! PROOFS. UART operations (45_uart R944, R946): the decimal digits are Mathlib's, read from the other end; a receive that does
not wait is run by the CPU in the two steps or the three that the receive FIFO decides. -/

namespace Sys2Proof.Machine

open Sys2Proof

/-! ### Decimal digits (R946) -/

/-- The digits of a number that the fuel is enough for. -/
theorem decDigits_eq_digits (fuel : Nat) : ∀ {n : Nat} (acc : List Nat), 0 < n → n < 10 ^ (fuel + 1) →
    decDigits fuel n acc = (Nat.digits 10 n).reverse ++ acc := by
  induction fuel with
  | zero =>
    intro n acc hpos hlt
    rw [decDigits, Nat.mod_eq_of_lt (show n < 10 from hlt), Nat.digits_of_lt 10 n hpos.ne' hlt]
    rfl
  | succ fuel ih =>
    intro n acc hpos hlt
    rw [decDigits]
    split
    case isTrue hdigit =>
      rw [Nat.digits_of_lt 10 n hpos.ne' hdigit]
      rfl
    case isFalse hmore =>
      rw [ih _ (by omega) (by omega), Nat.digits_def' (by decide) hpos, List.reverse_cons, List.append_assoc]
      rfl

/-- The digits of a word: ten are enough. -/
theorem decDigits_word {v : Word} (hv : v ≠ 0#32) : decDigits 9 v.toNat [] = (Nat.digits 10 v.toNat).reverse := by
  have hpos : 0 < v.toNat := Nat.pos_of_ne_zero (mt (BitVec.toNat_inj (y := 0#32)).1 hv)
  have hlt : v.toNat < 10 ^ 10 := v.isLt.trans (by decide)
  rw [decDigits_eq_digits 9 [] hpos hlt, List.append_nil]

theorem decDigits_zero : decDigits 9 (0#32).toNat [] = [0] := rfl

theorem decDigits_lt_ten (v : Word) : ∀ d ∈ decDigits 9 v.toNat [], d < 10 := by
  by_cases hv : v = 0#32
  · rw [hv, decDigits_zero]
    decide
  · rw [decDigits_word hv]
    exact fun d hd => Nat.digits_lt_base (by decide) (List.mem_reverse.1 hd)

/-- Read from the highest digit down, they are the number. -/
theorem foldl_decDigits (v : Word) : (decDigits 9 v.toNat []).foldl (fun n d => 10 * n + d) 0 = v.toNat := by
  by_cases hv : v = 0#32
  · rw [hv, decDigits_zero]
    rfl
  · calc (decDigits 9 v.toNat []).foldl (fun n d => 10 * n + d) 0
      _ = (Nat.digits 10 v.toNat).foldr (fun d n => 10 * n + d) 0 := by rw [decDigits_word hv, List.foldl_reverse]
      _ = Nat.ofDigits 10 (Nat.digits 10 v.toNat) := by
        simp only [Nat.ofDigits_eq_foldr, Nat.cast_id, Nat.add_comm]
      _ = v.toNat := Nat.ofDigits_digits 10 v.toNat

theorem decDigits_head (v : Word) : ∃ d rest, decDigits 9 v.toNat [] = d :: rest ∧ (d = 0 → rest = [] ∧ v = 0#32) := by
  by_cases hv : v = 0#32
  · exact ⟨0, [], by rw [hv, decDigits_zero], fun _ => ⟨rfl, hv⟩⟩
  · have hne : v.toNat ≠ 0 := mt (BitVec.toNat_inj (y := 0#32)).1 hv
    have hsplit := List.dropLast_append_getLast (Nat.digits_ne_nil_iff_ne_zero (b := 10).2 hne)
    refine ⟨_, (Nat.digits 10 v.toNat).dropLast.reverse, ?_, fun hlead => absurd hlead (Nat.getLast_digit_ne_zero 10 hne)⟩
    calc decDigits 9 v.toNat []
      _ = (Nat.digits 10 v.toNat).reverse := decDigits_word hv
      _ = _ := (congrArg List.reverse hsplit).symm.trans List.reverse_concat

/-- R946: a digit's character fits in eight bits, so the operand of its `uart_putc` is the character's code. -/
theorem execUartPutdec_eq (e : Expr) (s : State) : execUartPutdec e s =
    .next (s.push ((decDigits 9 (s.eval e).toNat []).map fun d => .op (.uartPutc (.lit (BitVec.ofNat 32 (0x30 + d)))))) := by
  have code : ∀ d ∈ decDigits 9 (s.eval e).toNat [], (BitVec.ofNat 8 (0x30 + d)).setWidth 32 = BitVec.ofNat 32 (0x30 + d) :=
    fun d hd => BitVec.setWidth_ofNat_of_le_of_lt (by decide) (by have := decDigits_lt_ten _ d hd; omega)
  have tasks : putcAll (decChars (s.eval e)) =
      (decDigits 9 (s.eval e).toNat []).map fun d => .op (.uartPutc (.lit (BitVec.ofNat 32 (0x30 + d)))) := by
    rw [putcAll, decChars, List.map_map]
    exact List.map_congr_left fun d hd => congrArg (fun c => Task.op (.uartPutc (.lit c))) (code d hd)
  rw [execUartPutdec, expandTo_eq, tasks]

/-- Settles O58: the digits of the operand are those of `decDigits`. -/
theorem putdecSendsTheDecimalDigits : Obligations.PutdecSendsTheDecimalDigits :=
  ⟨fun _ => rfl, fun e s => ⟨_, execUartPutdec_eq e s, decDigits_lt_ten _, foldl_decDigits _, decDigits_head _⟩⟩

/-! ### uart_getc_nb (R944) -/

theorem deliver_getcNbFlag_of_empty (r : Ret) {x : Word} (s : State) (h : x.getLsbD 4 = true) :
    deliver (.getcNbFlag r) x s = giveResult r (.optByte none) s := if_pos h

theorem deliver_getcNbFlag_of_nonempty (r : Ret) {x : Word} (s : State) (h : x.getLsbD 4 = false) :
    deliver (.getcNbFlag r) x s = s.push [.op (.rd32UartDr (.getcNbByte r))] := if_neg (Bool.eq_false_iff.1 h)

/-- R944: the flag read of a receive that finds nothing is its last step. -/
theorem execRd32UartFr_getcNb_of_empty (r : Ret) {s : State} (h : s.uart.rxq = []) :
    execRd32UartFr (.getcNbFlag r) s = .next (giveResult r (.optByte none) (s.retire 1)) := by
  obtain ⟨x, hread, _, rxfe, _⟩ := execRd32UartFr_flags (.getcNbFlag r) s
  rw [hread, deliver_getcNbFlag_of_empty r _ (rxfe.trans (decide_eq_true h))]

/-- R944: the flag read of a receive that finds a byte goes on to one data read. -/
theorem execRd32UartFr_getcNb_of_nonempty (r : Ret) {s : State} (h : s.uart.rxq ≠ []) :
    execRd32UartFr (.getcNbFlag r) s = .next ((s.retire 1).push [.op (.rd32UartDr (.getcNbByte r))]) := by
  obtain ⟨x, hread, _, rxfe, _⟩ := execRd32UartFr_flags (.getcNbFlag r) s
  rw [hread, deliver_getcNbFlag_of_nonempty r _ (rxfe.trans (decide_eq_false h))]

/-- R944: the data read hands on the data of the oldest entry, without its error bits. -/
theorem execRd32UartDr_getcNb (r : Ret) {s : State} {e : RxEntry} {rest : List RxEntry} (h : s.uart.rxq = e :: rest) :
    execRd32UartDr (.getcNbByte r) s =
      .next (giveResult r (.optByte (some e.data)) ((s.setUart (popRx s.uart e rest)).retire 1)) := by
  have data : (withDraw 0xFFF#32 (rxWord e) s).setWidth 8 = e.data := by
    rw [BitVec.setWidth_eq_extractLsb' (by decide), extractLsb'_withDraw_rxWord_data]
  rw [execRd32UartDr_of_cons _ h, deliver, data]

theorem cpuSteps_uartGetcNb (n : Nat) {s : State} {r : Ret} {ts : List Task} (h : s.cpu.cont = .op (.uartGetcNb r) :: ts) :
    cpuSteps (n + 1) s = cpuSteps n (s.setCont (.op (.rd32UartFr (.getcNbFlag r)) :: ts)) :=
  cpuSteps_succ_of_op n h (expandTo_eq _ _)

/-- R944 with nothing received: the expansion and the read of UART_FR. -/
theorem cpuSteps_uartGetcNb_of_nil {s : State} {r : Ret} {ts : List Task} (hcont : s.cpu.cont = .op (.uartGetcNb r) :: ts)
    (h : s.uart.rxq = []) : cpuSteps 2 s = .next (giveResult r (.optByte none) ((s.setCont ts).retire 1)) := by
  calc cpuSteps 2 s
    _ = cpuSteps 1 (s.setCont (.op (.rd32UartFr (.getcNbFlag r)) :: ts)) := cpuSteps_uartGetcNb 1 hcont
    _ = .next _ := cpuSteps_succ_of_op 0 rfl (execRd32UartFr_getcNb_of_empty r h)

/-- R944 with a byte received: the expansion, the read of UART_FR and the read of UART_DR. -/
theorem cpuSteps_uartGetcNb_of_cons {s : State} {r : Ret} {ts : List Task} {e : RxEntry} {rest : List RxEntry}
    (hcont : s.cpu.cont = .op (.uartGetcNb r) :: ts) (h : s.uart.rxq = e :: rest) : cpuSteps 3 s =
      .next (giveResult r (.optByte (some e.data))
        ((((s.retire 1).setCont ts).setUart (popRx s.uart e rest)).retire 1)) := by
  have hne : s.uart.rxq ≠ [] := h ▸ List.cons_ne_nil e rest
  calc cpuSteps 3 s
    _ = cpuSteps 2 (s.setCont (.op (.rd32UartFr (.getcNbFlag r)) :: ts)) := cpuSteps_uartGetcNb 2 hcont
    _ = cpuSteps 1 ((s.retire 1).setCont (.op (.rd32UartDr (.getcNbByte r)) :: ts)) :=
      cpuSteps_succ_of_op 1 rfl (execRd32UartFr_getcNb_of_nonempty r hne)
    _ = .next _ := cpuSteps_succ_of_op 0 rfl (execRd32UartDr_getcNb r h)

/-- Settles O59: whether a byte has been received decides what follows the read of UART_FR. -/
theorem nonBlockingReceiveNeverWaits : Obligations.NonBlockingReceiveNeverWaits :=
  ⟨fun _ => rfl, fun _ _ _ hcont =>
    ⟨fun hnil => ⟨_, cpuSteps_uartGetcNb_of_nil hcont hnil, rfl, rfl⟩,
      fun _ _ hcons => ⟨_, cpuSteps_uartGetcNb_of_cons hcont hcons, rfl, rfl, rfl⟩⟩⟩

end Sys2Proof.Machine
end

section
/-! PROOFS. The serial line and `uart_init` (45_uart R915, R925, R927, R940): the model's line condition, over integers, is the
rule's over rationals; the sequence of `uart_init` is run in three stages: the UART off, the two pins, the line control. -/

namespace Sys2Proof.Machine

open Sys2Proof

/-! ### The line conditions (R915, R925, R927) -/

theorem divisorValid_iff (i : BitVec 16) (f : BitVec 6) :
    divisorValid i f = true ↔ i ≠ 0#16 ∧ ¬ (i = 0xFFFF#16 ∧ f ≠ 0#6) := by
  simp only [divisorValid, Bool.and_eq_true, bne_iff_ne, Bool.not_eq_true', Bool.and_eq_false_iff, beq_eq_false_iff_ne,
    bne_eq_false_iff_eq, not_and_or, not_not, ne_eq]

/-- R925: multiplied by the divisor, the rule's comparison of rates is the model's. -/
theorem baudWithin_iff (p : Config.Params) {n : Nat} (hn : 0 < n) : baudWithin p n = true ↔
    1000 * |4 * (p.uartClkHz : ℚ) / n - 115200| ≤ p.baudTolPermille * 115200 := by
  have hpos : (0 : ℚ) < n := Nat.cast_pos.2 hn
  have hdist : |4 * (p.uartClkHz : ℚ) / n - 115200| = |4 * (p.uartClkHz : ℚ) - 115200 * n| / n := by
    rw [div_sub' hpos.ne', abs_div, abs_of_pos hpos, mul_comm (n : ℚ)]
  rw [hdist, ← mul_div_assoc, div_le_iff₀ hpos, baudWithin, decide_eq_true_iff, ← Nat.cast_le (α := ℚ)]
  push_cast [Nat.cast_natAbs, Config.baud]
  exact Iff.rfl

theorem baudOk_iff (p : Config.Params) (i : BitVec 16) (f : BitVec 6) : baudOk p i f = true ↔
    i ≠ 0#16 ∧ ¬ (i = 0xFFFF#16 ∧ f ≠ 0#6) ∧
      1000 * |4 * (p.uartClkHz : ℚ) / (64 * i.toNat + f.toNat : Nat) - 115200| ≤ p.baudTolPermille * 115200 := by
  rw [baudOk, Bool.and_eq_true, divisorValid_iff, and_assoc]
  refine and_congr_right fun hi => and_congr_right' (baudWithin_iff p ?_)
  have hpos : 0 < i.toNat := Nat.pos_of_ne_zero (mt (BitVec.toNat_inj (y := 0#16)).1 hi)
  omega

theorem frameOk_iff (s : State) : frameOk s = true ↔ s.uart.cr.getLsbD 0 = true ∧ s.uart.lcrOk = true ∧
    s.uart.lcrEff.lcrh.extractLsb' 5 2 = 0b11#2 ∧ s.uart.lcrEff.lcrh.getLsbD 1 = false ∧
    s.uart.lcrEff.lcrh.getLsbD 3 = false ∧ s.uart.lcrEff.lcrh.getLsbD 0 = false ∧
    baudOk s.params s.uart.lcrEff.ibrd s.uart.lcrEff.fbrd = true := by
  simp only [frameOk, Uart.enabled, Bool.and_eq_true, beq_iff_eq, Bool.not_eq_true', and_assoc]

theorem lineOkTx_iff (s : State) :
    lineOkTx s = true ↔ frameOk s = true ∧ s.uart.cr.getLsbD 8 = true ∧ s.gpio.fsel[14] = 0b100#3 := by
  rw [lineOkTx, Bool.and_eq_true, Bool.and_eq_true, beq_iff_eq, and_assoc]
  rfl

theorem lineOkRx_iff (s : State) :
    lineOkRx s = true ↔ frameOk s = true ∧ s.uart.cr.getLsbD 9 = true ∧ s.gpio.fsel[15] = 0b100#3 := by
  rw [lineOkRx, Bool.and_eq_true, Bool.and_eq_true, beq_iff_eq, and_assoc]
  rfl

/-- A UART that is on in both directions, with an 8N1 line control in effect and ALT0 on its pins, has a good line. -/
theorem lineOk_of_8N1 {s : State} {i : BitVec 16} {f : BitVec 6} (hcr : s.uart.cr = 0x301#16) (hok : s.uart.lcrOk = true)
    (heff : s.uart.lcrEff = ⟨i, f, 0x70#8⟩) (hbaud : baudOk s.params i f = true) (htx : s.gpio.fsel[14] = 0b100#3)
    (hrx : s.gpio.fsel[15] = 0b100#3) : lineOkTx s = true ∧ lineOkRx s = true := by
  obtain ⟨hwlen, hpen, hstp, hbrk⟩ : (0x70#8).extractLsb' 5 2 = 0b11#2 ∧ (0x70#8).getLsbD 1 = false ∧
      (0x70#8).getLsbD 3 = false ∧ (0x70#8).getLsbD 0 = false := by decide
  have frame : frameOk s = true := by
    rw [frameOk_iff, hcr, heff]
    exact ⟨by decide, hok, hwlen, hpen, hstp, hbrk, hbaud⟩
  rw [lineOkTx_iff, lineOkRx_iff, hcr]
  exact ⟨⟨frame, by decide, htx⟩, ⟨frame, by decide, hrx⟩⟩

/-- R926 at the reference rate: at either UART clock the rounded divisor is within the reference tolerance. -/
theorem baudOk_reference {p : Config.Params} (hclk : p.uartClkHz = 48000000 ∨ p.uartClkHz = 3000000)
    (htol : p.baudTolPermille = 25) :
    baudOk p (BitVec.ofNat 16 (div64 p.uartClkHz 115200 / 64)) (BitVec.ofNat 6 (div64 p.uartClkHz 115200 % 64)) = true := by
  rw [baudOk, baudWithin, htol]
  obtain h | h := hclk
  · rw [h]
    decide
  · rw [h]
    decide

/-! ### gpio_set_function (41 R540) -/

/-- `s` with the cycle count `c` and the draw index `k`: all that the ends of CPU steps move. -/
def State.atMoment (s : State) (c k : Nat) : State := (s.setCyc c).setDraws k

theorem exec_rdGpfsel {k : Nat} (hk : k < 6) (d : Dest) (s : State) : exec (rdGpfsel k d) s = readFsel k d s := by
  interval_cases k <;> rfl

theorem exec_wrGpfsel {k : Nat} (hk : k < 6) (v : Expr) (s : State) : exec (wrGpfsel k v) s = writeFsel k v s := by
  interval_cases k <;> rfl

/-- A value of three bits, moved to a field `k` to `k + 2` of a word, has no bit outside it. -/
theorem getLsbD_shiftLeft_field {v : Word} {k j : Nat} (hv : v.toNat < 8) (hj : j < 32) :
    (v <<< k).getLsbD j = if k ≤ j ∧ j < k + 3 then v.getLsbD (j - k) else false := by
  rw [BitVec.getLsbD_shiftLeft, decide_eq_true hj, Bool.true_and]
  split
  case isTrue hin => rw [decide_eq_false (Nat.not_lt.2 hin.1), Bool.not_false, Bool.true_and]
  case isFalse hout =>
    by_cases hlow : j < k
    · rw [decide_eq_true hlow, Bool.not_true, Bool.false_and]
    · have hhigh : 2 ^ 3 ≤ 2 ^ (j - k) := Nat.pow_le_pow_right (by decide) (by omega)
      rw [← BitVec.testBit_toNat, Nat.testBit_lt_two_pow (hv.trans_le hhigh), Bool.and_false]

theorem getLsbD_fselInsert {p f j : Nat} (x : Word) (hf : f < 8) (hj : j < 32) : (fselInsert p f x).getLsbD j =
    if fselShift p ≤ j ∧ j < fselShift p + 3 then (BitVec.ofNat 32 f).getLsbD (j - fselShift p) else x.getLsbD j := by
  have hf' : (BitVec.ofNat 32 f).toNat < 8 := by rwa [BitVec.toNat_ofNat, Nat.mod_eq_of_lt (by omega)]
  rw [fselInsert, BitVec.getLsbD_or, BitVec.getLsbD_and, BitVec.getLsbD_not, decide_eq_true hj, Bool.true_and,
    getLsbD_shiftLeft_field hf' hj, getLsbD_shiftLeft_field (by decide) hj]
  split
  case isTrue hin =>
    have ones : (7#32).getLsbD (j - fselShift p) = true := getLsbD_lowOnes (n := 3) (by omega) (by decide)
    rw [ones, Bool.not_true, Bool.and_false, Bool.false_or]
  case isFalse => rw [Bool.not_false, Bool.and_true, Bool.or_false]

/-- The field of `p` becomes `f`. -/
theorem extractLsb'_fselInsert_same (p : Nat) {f : Nat} (x : Word) (hf : f < 8) :
    (fselInsert p f x).extractLsb' (3 * (p % 10)) 3 = BitVec.ofNat 3 f := by
  refine BitVec.eq_of_getLsbD_eq fun i hi => ?_
  have hin : fselShift p ≤ 3 * (p % 10) + i ∧ 3 * (p % 10) + i < fselShift p + 3 := by unfold fselShift; omega
  rw [BitVec.getLsbD_extractLsb', getLsbD_fselInsert x hf (by omega), if_pos hin, fselShift, Nat.add_sub_cancel_left,
    BitVec.getLsbD_ofNat, BitVec.getLsbD_ofNat, decide_eq_true hi, decide_eq_true (hi.trans (by decide)),
    Bool.true_and]

/-- Every other field of the register stays. -/
theorem extractLsb'_fselInsert_other {p q f : Nat} (x : Word) (hf : f < 8) (h : q % 10 ≠ p % 10) :
    (fselInsert p f x).extractLsb' (3 * (q % 10)) 3 = x.extractLsb' (3 * (q % 10)) 3 := by
  refine BitVec.eq_of_getLsbD_eq fun i hi => ?_
  have hout : ¬ (fselShift p ≤ 3 * (q % 10) + i ∧ 3 * (q % 10) + i < fselShift p + 3) := by unfold fselShift; omega
  rw [BitVec.getLsbD_extractLsb', BitVec.getLsbD_extractLsb', getLsbD_fselInsert x hf (by omega), if_neg hout]

theorem execGpioSetFunction_of_pin {p : Nat} (hp : p < 54) (f : Nat) (s : State) : execGpioSetFunction p f s =
    .next (s.push [.op (rdGpfsel (fselReg p) (.fselModify p f))]) := by
  rw [execGpioSetFunction, if_neg (by omega), expandTo_eq]

/-- R540: the function of every pin after the read and the write of the pin's register. -/
theorem cpuSteps_gpioSetFunction (n : Nat) {s : State} {p f : Nat} {ts : List Task} (hp : p < 54) (hf : f < 8)
    (hcont : s.cpu.cont = .op (.gpioSetFunction p f) :: ts) : ∃ (fsel : PerPin (BitVec 3)) (c k : Nat),
      cpuSteps (n + 3) s = cpuSteps n (((s.setCont ts).setGpio { s.gpio with fsel := fsel }).atMoment c k) ∧
      ∀ (q : Nat) (hq : q < 54), fsel[q] = if q = p then BitVec.ofNat 3 f else s.gpio.fsel[q] := by
  have hreg : fselReg p < 6 := by unfold fselReg; omega
  obtain ⟨x, hread, hfields⟩ := readFsel_pins (fselReg p) (.fselModify p f) (s.setCont ts)
  refine ⟨(fselWrite s.gpio (fselReg p) (fselInsert p f x)).fsel, ((s.retire 1).retire 1).cyc, s.draws + 2, ?_,
    fun q hq => ?_⟩
  · calc cpuSteps (n + 3) s
      _ = cpuSteps (n + 2) (s.setCont (.op (rdGpfsel (fselReg p) (.fselModify p f)) :: ts)) :=
        cpuSteps_succ_of_op (n + 2) hcont (execGpioSetFunction_of_pin hp f _)
      _ = cpuSteps (n + 1) ((s.retire 1).setCont (.op (wrGpfsel (fselReg p) (.lit (fselInsert p f x))) :: ts)) :=
        cpuSteps_succ_of_op (n + 1) rfl ((exec_rdGpfsel hreg _ _).trans hread)
      _ = _ := cpuSteps_succ_of_op n rfl ((exec_wrGpfsel hreg _ _).trans (writeFsel_eq _ _ _))
  · rw [fselWrite_fsel _ _ _ q hq]
    split
    case isTrue hsame =>
      by_cases hpin : q = p
      · rw [if_pos hpin, hpin, extractLsb'_fselInsert_same p x hf]
      · have hfield : q % 10 ≠ p % 10 := by unfold fselReg at hsame; omega
        rw [if_neg hpin, extractLsb'_fselInsert_other x hf hfield]
        exact hfields q hq hsame
    case isFalse hother => rw [if_neg (fun hpin => hother (by rw [hpin, fselReg]))]

/-! ### gpio_set_pull (41 R543) -/

/-- An access that always goes on, and moves at most the GPIO state but no pin's function. -/
def KeepsFunctions (i : Instr) : Prop :=
  ∀ s : State, ∃ (g : Gpio) (n : Nat), exec i s = .next ((s.setGpio g).retire n) ∧ g.fsel = s.gpio.fsel

theorem keepsFunctions_wr32Gppud {v : Word} (hv : v.extractLsb' 0 2 ≠ 3#2) : KeepsFunctions (.wr32Gppud (.lit v)) :=
  fun s => ⟨_, 1, execWr32Gppud_of_ne (v := .lit v) hv, pudWrite_fsel s _⟩

theorem keepsFunctions_spin (n : Nat) : KeepsFunctions (.spin n) := fun s => ⟨s.gpio, n, rfl, rfl⟩

theorem keepsFunctions_wrPudclk (p : Nat) (v : Word) : KeepsFunctions (wrPudclk p v) := by
  unfold wrPudclk
  split
  · exact fun s => ⟨_, 1, wrote_eq _, pudclkWrite_fsel s 0 v⟩
  · exact fun s => ⟨_, 1, wrote_eq _, pudclkWrite_fsel s 1 v⟩

/-- A run of such accesses: what they move but the pins' functions is left open. -/
theorem cpuSteps_of_keepsFunctions (n : Nat) {ts : List Task} : ∀ {is : List Instr} {s : State},
    (∀ i ∈ is, KeepsFunctions i) → s.cpu.cont = is.map Task.op ++ ts → ∃ (g : Gpio) (c k : Nat),
      cpuSteps (n + is.length) s = cpuSteps n (((s.setCont ts).setGpio g).atMoment c k) ∧
      g.fsel = s.gpio.fsel := by
  intro is
  induction is with
  | nil =>
    intro s _ hcont
    have hcont : s.cpu.cont = ts := hcont
    refine ⟨s.gpio, s.cyc, s.draws, ?_, rfl⟩
    rw [← hcont]
    rfl
  | cons i is ih =>
    intro s hkeep hcont
    obtain ⟨g, m, hexec, hfsel⟩ := hkeep i List.mem_cons_self (s.setCont (is.map Task.op ++ ts))
    obtain ⟨g', c, k, hrun, hfsel'⟩ := ih (s := ((s.setCont (is.map Task.op ++ ts)).setGpio g).retire m)
      (fun j hj => hkeep j (List.mem_cons_of_mem i hj)) rfl
    exact ⟨g', c, k, (cpuSteps_succ_of_op (n + is.length) hcont hexec).trans hrun, hfsel'.trans hfsel⟩

theorem execGpioSetPull_of_pin {p : Nat} (hp : p < 54) (mode : Nat) (s : State) :
    execGpioSetPull p mode s = .next (s.push (pullTasks p mode)) := by
  rw [execGpioSetPull, if_neg (by omega), expandTo_eq]

/-- R543: the sequence ends, and no pin's function is moved. -/
theorem cpuSteps_gpioSetPull (n : Nat) {s : State} {p mode : Nat} {ts : List Task} (hp : p < 54) (hmode : mode < 3)
    (hcont : s.cpu.cont = .op (.gpioSetPull p mode) :: ts) : ∃ (g : Gpio) (c k : Nat),
      cpuSteps (n + 7) s = cpuSteps n (((s.setCont ts).setGpio g).atMoment c k) ∧ g.fsel = s.gpio.fsel := by
  have hpud : (BitVec.ofNat 32 mode).extractLsb' 0 2 ≠ 3#2 := by interval_cases mode <;> decide
  have keep : ∀ i ∈ [.wr32Gppud (.lit (BitVec.ofNat 32 mode)), .spin Config.pudHold, wrPudclk p (pinBit p),
      .spin Config.pudHold, .wr32Gppud (.lit 0#32), wrPudclk p 0#32], KeepsFunctions i := by
    simp only [List.forall_mem_cons, List.not_mem_nil, false_imp_iff, implies_true, and_true]
    exact ⟨keepsFunctions_wr32Gppud hpud, keepsFunctions_spin _, keepsFunctions_wrPudclk _ _, keepsFunctions_spin _,
      keepsFunctions_wr32Gppud (by decide), keepsFunctions_wrPudclk _ _⟩
  obtain ⟨g, c, k, hrun, hfsel⟩ := cpuSteps_of_keepsFunctions n (s := s.setCont (pullTasks p mode ++ ts)) keep rfl
  exact ⟨g, c, k, (cpuSteps_succ_of_op (n + 6) hcont (execGpioSetPull_of_pin hp mode _)).trans hrun, hfsel⟩

/-! ### uart_init (R940) -/

theorem execUartInit_of_zero {o : Option Expr} {s : State} (h : baudOperand s o = 0#32) :
    execUartInit o s = .refused .baudZero := if_pos h

theorem execUartInit_of_ne {o : Option Expr} {s : State} (h : baudOperand s o ≠ 0#32) :
    execUartInit o s = .next (s.push (initTasks s.params (baudOperand s o).toNat)) := by
  rw [execUartInit, if_neg h, expandTo_eq]

/-- The operand left out is 115200. -/
theorem baudOperand_eq (s : State) (o : Option Expr) : baudOperand s o = (o.map s.eval).getD 115200#32 := by
  cases o <;> rfl

/-- R940's second stage: ALT0 and no pull on both pins. -/
theorem cpuSteps_routePins (n : Nat) {s : State} {ts : List Task} (hcont : s.cpu.cont =
    .op (.gpioSetFunction 14 4) :: .op (.gpioSetFunction 15 4) :: .op (.gpioSetPull 14 0) :: .op (.gpioSetPull 15 0) :: ts) :
    ∃ (g : Gpio) (c k : Nat), cpuSteps (n + 20) s = cpuSteps n (((s.setCont ts).setGpio g).atMoment c k) ∧
      g.fsel[14] = 0b100#3 ∧ g.fsel[15] = 0b100#3 := by
  obtain ⟨fsel1, c1, k1, hrun1, hfsel1⟩ :=
    cpuSteps_gpioSetFunction (n + 17) (p := 14) (f := 4) (by decide) (by decide) hcont
  obtain ⟨fsel2, c2, k2, hrun2, hfsel2⟩ :=
    cpuSteps_gpioSetFunction (n + 14) (s := ((s.setCont _).setGpio { s.gpio with fsel := fsel1 }).atMoment c1 k1) (p := 15)
      (f := 4) (by decide) (by decide) rfl
  obtain ⟨g3, c3, k3, hrun3, hfsel3⟩ :=
    cpuSteps_gpioSetPull (n + 7) (s := ((s.setCont _).setGpio { s.gpio with fsel := fsel2 }).atMoment c2 k2) (p := 14)
      (mode := 0) (by decide) (by decide) rfl
  obtain ⟨g, c, k, hrun, hfsel⟩ :=
    cpuSteps_gpioSetPull n (s := ((s.setCont _).setGpio g3).atMoment c3 k3) (p := 15) (mode := 0) (by decide) (by decide) rfl
  have hfsel : g.fsel = fsel2 := hfsel.trans (hfsel3.trans rfl)
  refine ⟨g, c, k, hrun1.trans (hrun2.trans (hrun3.trans hrun)), ?_, ?_⟩
  · simp only [hfsel, hfsel2 14 (by decide)]
    exact hfsel1 14 (by decide)
  · simp only [hfsel, hfsel2 15 (by decide)]
    rfl

/-- A constant of 32 bits, in a narrower register. -/
theorem extractLsb'_ofNat_word {w : Nat} (hw : w ≤ 32) (n : Nat) : (BitVec.ofNat 32 n).extractLsb' 0 w = BitVec.ofNat w n := by
  rw [← BitVec.setWidth_eq_extractLsb' hw, BitVec.setWidth_ofNat_of_le hw]

/-- R912 on a UART with no interrupt bit set: none is set after it, whatever FEN was. -/
theorem lcrhWrite_ris_of_clear {u : Uart} (h : u.ris = 0#11) (l : BitVec 8) : (lcrhWrite u l).ris = 0#11 := by
  by_cases hfen : l.getLsbD 4 = u.lcrh.getLsbD 4
  · obtain ⟨_, _, hris⟩ := lcrhWrite_of_sameFen hfen
    rw [hris, h]
  · obtain ⟨_, _, hris⟩ := lcrhWrite_of_changedFen hfen
    rw [hris, h]
    decide

/-- `u` with no interrupt bit set and a divisor staged, as R940 has it before the write of LCRH. -/
def stagedUart (u : Uart) (i f : Nat) : Uart :=
  { u with ris := 0#11, ibrd := BitVec.ofNat 16 i, fbrd := BitVec.ofNat 6 f }

/-- What R940 leaves of a UART `u` that is off: the line control latched, RX and RT unmasked, the UART on. -/
def initialisedUart (u : Uart) (i f : Nat) : Uart :=
  { lcrhWrite (stagedUart u i f) 0x70#8 with imsc := 0x050#11, cr := 0x301#16 }

theorem initialisedUart_spec {u : Uart} (hoff : u.cr.getLsbD 0 = false) (i f : Nat) :
    let u' := initialisedUart u i f
    u'.lcrOk = true ∧ u'.lcrEff = ⟨BitVec.ofNat 16 i, BitVec.ofNat 6 f, 0x70#8⟩ ∧ u'.imsc = 0x050#11 ∧
      u'.cr = 0x301#16 ∧ u'.ris = 0#11 := by
  obtain ⟨_, hok, heff, _⟩ := lcrhWrite_latches (stagedUart u i f) 0x70#8
  exact ⟨hok.trans (congrArg not hoff), heff, rfl, rfl, lcrhWrite_ris_of_clear rfl 0x70#8⟩

theorem State.eval_lit (s : State) (v : Word) : s.eval (.lit v) = v := rfl

theorem execWr32UartIbrd_of_off (n : Nat) {s : State} (hoff : s.uart.cr.getLsbD 0 = false) :
    execWr32UartIbrd (.lit (BitVec.ofNat 32 n)) s =
      .next ((s.setUart { s.uart with ibrd := BitVec.ofNat 16 n }).retire 1) := by
  rw [execWr32UartIbrd_eq, hoff, Bool.not_false, Bool.and_true, State.eval_lit, extractLsb'_ofNat_word (by decide)]

theorem execWr32UartFbrd_of_off (n : Nat) {s : State} (hoff : s.uart.cr.getLsbD 0 = false) :
    execWr32UartFbrd (.lit (BitVec.ofNat 32 n)) s =
      .next ((s.setUart { s.uart with fbrd := BitVec.ofNat 6 n }).retire 1) := by
  rw [execWr32UartFbrd_eq, hoff, Bool.not_false, Bool.and_true, State.eval_lit, extractLsb'_ofNat_word (by decide)]

theorem execWr32UartLcrh_ofNat (n : Nat) (s : State) : execWr32UartLcrh (.lit (BitVec.ofNat 32 n)) s =
    .next ((s.setUart (lcrhWrite s.uart (BitVec.ofNat 8 n))).retire 1) := by
  rw [execWr32UartLcrh_eq, State.eval_lit, extractLsb'_ofNat_word (by decide)]

theorem execWr32UartImsc_ofNat (n : Nat) (s : State) : execWr32UartImsc (.lit (BitVec.ofNat 32 n)) s =
    .next ((s.setUart { s.uart with imsc := BitVec.ofNat 11 n }).retire 1) := by
  rw [execWr32UartImsc_eq, State.eval_lit, extractLsb'_ofNat_word (by decide)]

/-- R917 on a constant that asks for no unmodelled mode. -/
theorem execWr32UartCr_lit {x : Word} {cr : BitVec 16}
    (hmodelled : (x.getLsbD 1 || x.getLsbD 2 || x.getLsbD 14 || x.getLsbD 15) = false)
    (hcr : x.setWidth 16 &&& 0xFF87#16 = cr) (s : State) :
    execWr32UartCr (.lit x) s = .next ((s.setUart { s.uart with cr := cr }).retire 1) := by
  rw [← hcr]
  exact execWr32UartCr_of_modelled (v := .lit x) hmodelled

/-- A write that moves the UART state from `u` to `u'`, as one of `n + 1` steps. -/
theorem cpuSteps_succ_of_uartWrite (n : Nat) {s : State} {i : Instr} {ts : List Task} {u u' : Uart} {c k : Nat}
    (hexec : exec i (((s.setCont ts).setUart u).atMoment c k) =
      .next (((((s.setCont ts).setUart u).atMoment c k).setUart u').retire 1)) :
    cpuSteps (n + 1) (((s.setCont (.op i :: ts)).setUart u).atMoment c k) =
      cpuSteps n (((s.setCont ts).setUart u').atMoment (c + (1 + Config.extraCycles k)) (k + 1)) :=
  cpuSteps_succ_of_op n rfl hexec

/-- R940's writes of the line control, for the divisor words `i` and `f`. -/
def configureTasks (i f : Nat) : List Task :=
  [.op (.wr32UartIcr (.lit 0x7FF#32)), .op (.wr32UartIbrd (.lit (BitVec.ofNat 32 i))),
    .op (.wr32UartFbrd (.lit (BitVec.ofNat 32 f))), .op (.wr32UartLcrh (.lit 0x70#32)), .op (.wr32UartImsc (.lit 0x050#32)),
    .op (.wr32UartCr (.lit 0x301#32))]

/-- R940's third stage: status cleared, the divisor and the line control latched, the receive interrupts unmasked, the UART on. -/
theorem cpuSteps_configureUart (n : Nat) (s : State) (ts : List Task) {u : Uart} (hoff : u.cr.getLsbD 0 = false) (i f c k : Nat) :
    ∃ c' k', cpuSteps (n + 6) (((s.setCont (configureTasks i f ++ ts)).setUart u).atMoment c k) =
      cpuSteps n (((s.setCont ts).setUart (initialisedUart u i f)).atMoment c' k') :=
  ⟨_, _, calc cpuSteps (n + 6) (((s.setCont (configureTasks i f ++ ts)).setUart u).atMoment c k)
    _ = cpuSteps (n + 5) (((s.setCont _).setUart { u with ris := 0#11 }).atMoment _ _) :=
      cpuSteps_succ_of_uartWrite (n + 5) (execWr32UartIcr_allOnes _)
    _ = cpuSteps (n + 4) (((s.setCont _).setUart { u with ris := 0#11, ibrd := BitVec.ofNat 16 i }).atMoment _ _) :=
      cpuSteps_succ_of_uartWrite (n + 4) (execWr32UartIbrd_of_off i hoff)
    _ = cpuSteps (n + 3) (((s.setCont _).setUart (stagedUart u i f)).atMoment _ _) :=
      cpuSteps_succ_of_uartWrite (n + 3) (execWr32UartFbrd_of_off f hoff)
    _ = cpuSteps (n + 2) (((s.setCont _).setUart (lcrhWrite (stagedUart u i f) 0x70#8)).atMoment _ _) :=
      cpuSteps_succ_of_uartWrite (n + 2) (execWr32UartLcrh_ofNat 0x70 _)
    _ = cpuSteps (n + 1) (((s.setCont _).setUart { lcrhWrite (stagedUart u i f) 0x70#8 with imsc := 0x050#11 }).atMoment _ _) :=
      cpuSteps_succ_of_uartWrite (n + 1) (execWr32UartImsc_ofNat 0x050 _)
    _ = cpuSteps n (((s.setCont ts).setUart (initialisedUart u i f)).atMoment _ _) :=
      cpuSteps_succ_of_uartWrite n (execWr32UartCr_lit (by decide) (by decide) _)⟩

/-- R940's end state, but for the moment at which it is reached. -/
def State.initialised (s : State) (ts : List Task) (g : Gpio) (d : Nat) : State :=
  (((s.setCont ts).setGpio g).setUart (initialisedUart { s.uart with cr := 0#16 } (d / 64) (d % 64))).setSoft
    { s.soft with uartInitialized := true }

/-- R940 at the reference rate, stage by stage: the expansion, the UART off, the pins, the line control, the mark. -/
theorem cpuSteps_uartInit {s : State} {o : Option Expr} {ts : List Task} (hbaud : baudOperand (s.setCont ts) o = 115200#32)
    (hcont : s.cpu.cont = .op (.uartInit o) :: ts) : ∃ (g : Gpio) (c k : Nat),
      cpuSteps 29 s = .next ((s.initialised ts g (div64 s.params.uartClkHz 115200)).atMoment c k) ∧
      g.fsel[14] = 0b100#3 ∧ g.fsel[15] = 0b100#3 := by
  have expand : exec (.uartInit o) (s.setCont ts) = .next (s.setCont (initTasks s.params 115200 ++ ts)) := by
    have hne : baudOperand (s.setCont ts) o ≠ 0#32 := by rw [hbaud]; decide
    refine (execUartInit_of_ne hne).trans ?_
    rw [hbaud]
    rfl
  obtain ⟨g, c, k, hpins, hfsel⟩ := cpuSteps_routePins 7
    (s := ((s.setUart { s.uart with cr := 0#16 }).retire 1).setCont ((initTasks s.params 115200).tail ++ ts)) rfl
  obtain ⟨c', k', hline⟩ := cpuSteps_configureUart 1 (s.setGpio g) (.uartInitStep :: ts) (u := { s.uart with cr := 0#16 })
    BitVec.getLsbD_zero (div64 s.params.uartClkHz 115200 / 64) (div64 s.params.uartClkHz 115200 % 64) c k
  refine ⟨g, c' + (1 + Config.extraCycles k'), k' + 1, ?_, hfsel⟩
  calc cpuSteps 29 s
    _ = cpuSteps 28 (s.setCont (initTasks s.params 115200 ++ ts)) := cpuSteps_succ_of_op 28 hcont expand
    _ = cpuSteps 27 (((s.setUart { s.uart with cr := 0#16 }).retire 1).setCont ((initTasks s.params 115200).tail ++ ts)) :=
      cpuSteps_succ_of_op 27 rfl (execWr32UartCr_lit (by decide) (by decide) _)
    _ = cpuSteps 7 _ := hpins
    _ = cpuSteps 1 _ := hline
    _ = .next _ := cpuSteps_succ_of_next 0 (wrote_eq _)

/-- Settles O56: the line conditions are `lineOkTx_iff` and `lineOkRx_iff` with `frameOk_iff` and `baudOk_iff`; the run is
`cpuSteps_uartInit`, whose end state meets `lineOk_of_8N1`. -/
theorem uartInitMakesTheLineGood : Obligations.UartInitMakesTheLineGood := by
  refine ⟨fun s => ?_, fun _ => rfl, fun o s => ⟨?_, ?_, fun ts => wrote_eq _⟩, fun o s ts ho hclk htol hcont => ?_⟩
  · have frame := frameOk_iff s
    rw [baudOk_iff] at frame
    exact ⟨(lineOkTx_iff s).trans (and_congr_left' frame), (lineOkRx_iff s).trans (and_congr_left' frame)⟩
  · rw [← baudOperand_eq]
    exact execUartInit_of_zero
  · rw [← baudOperand_eq]
    exact execUartInit_of_ne
  · have hbaud : baudOperand (s.setCont ts) o = 115200#32 := by
      obtain rfl | rfl := ho
      · rfl
      · rfl
    obtain ⟨g, c, k, hrun, htx, hrx⟩ := cpuSteps_uartInit hbaud hcont
    obtain ⟨hok, heff, himsc, hcr, hris⟩ := initialisedUart_spec (u := { s.uart with cr := 0#16 }) BitVec.getLsbD_zero
      (div64 s.params.uartClkHz 115200 / 64) (div64 s.params.uartClkHz 115200 % 64)
    obtain ⟨hlineTx, hlineRx⟩ := lineOk_of_8N1 (s := (s.initialised ts g _).atMoment c k) hcr hok heff
      (baudOk_reference hclk htol) htx hrx
    exact ⟨_, hrun, rfl, hlineTx, hlineRx, heff, himsc, hcr, hris, rfl, rfl, rfl, rfl, rfl, fun _ => rfl⟩

end Sys2Proof.Machine
end

section
/-! PROOFS. The decoder against the encoder (30_encoding R301, R302, R340, R341): one lemma for each shape of an instruction's words
takes the encoder's words apart, and the catalogue's rows give the key of what the decoder answers. -/

namespace Sys2Proof

/-! ### Words that the encoder writes -/

theorem decode_readKey_encodeDest {k : Word} {f : Dest → Instr} (hk : k.toNat < 0x1000000) (hf : readAt k.toNat = .ok f)
    {d : Dest} (hd : d.wf = true) (rest : List Word) : decode (k :: (encodeDest d ++ rest)) = .ok (f d) rest := by
  rw [decode_read rfl hk hf, parse1, decodeDest_encodeDest hd, finish]

theorem decode_writeKey_encodeExpr {k : Word} {f : Expr → Instr} (hlo : 0x1000000 ≤ k.toNat) (hhi : k.toNat < 0x2000000)
    (hf : writeAt (k.toNat % 0x1000000) = .ok f) {e : Expr} (he : e.wf = true) (rest : List Word) :
    decode (k :: (encodeExpr e ++ rest)) = .ok (f e) rest := by
  rw [decode_write (off := k.toNat % 0x1000000) (by omega) (by omega) hf, parse1, decodeExpr_encodeExpr he, finish]

/-- A CPU primitive or a driver operation, whose row of the table reads `ws` as `i`. -/
theorem decode_opKey {k : Word} {p : List Word → Option (Instr × List Word)} {i : Instr} {ws rest : List Word}
    (hn : 0x20000 ≤ k.toNat / 256) (hp : (cpuOps ++ driverOps).lookup (k.toNat / 256) = some p) (h : p ws = some (i, rest)) :
    decode (k :: ws) = .ok i rest := by
  rw [decode_op rfl hn hp, h, finish]

theorem parse1_of_some {α : Type} {p : List Word → Option (α × List Word)} {ws rest : List Word} {a : α}
    (h : p ws = some (a, rest)) (f : α → Instr) : parse1 p f ws = some (f a, rest) := by
  rw [parse1, h]

theorem parse2_of_some {α β : Type} {p : List Word → Option (α × List Word)} {q : List Word → Option (β × List Word)}
    {us vs rest : List Word} {a : α} {b : β} (hp : p (us ++ (vs ++ rest)) = some (a, vs ++ rest))
    (hq : q (vs ++ rest) = some (b, rest)) (f : α → β → Instr) : parse2 p q f (us ++ vs ++ rest) = some (f a b, rest) := by
  rw [List.append_assoc, parse2, hp]
  simp only [hq]

/-- Settles O2, by cases on the instruction: the key of each row finds the row, and the operands read back by their codec. -/
theorem decodeReadsWhatEncodeWrites : Obligations.DecodeReadsWhatEncodeWrites := by
  intro i rest h
  cases i with
  | rd32Gpfsel0 | rd32Gpfsel1 | rd32Gpfsel2 | rd32Gpfsel3 | rd32Gpfsel4 | rd32Gpfsel5 | rd32Gppud | rd32Gppudclk0
  | rd32Gppudclk1 | rd32Gplev0 | rd32Gplev1 | rd32Gpset0 | rd32Gpset1 | rd32Gpclr0 | rd32Gpclr1 | rd32StCs | rd32StClo
  | rd32StChi | rd32StC0 | rd32StC1 | rd32StC2 | rd32StC3 | rd32IrqBasicPending | rd32IrqPending1 | rd32IrqPending2
  | rd32FiqControl | rd32EnableIrqs1 | rd32EnableIrqs2 | rd32EnableBasic | rd32DisableIrqs1 | rd32DisableIrqs2
  | rd32DisableBasic | rd32Mbox0Read | rd32Mbox0Peek | rd32Mbox0Status | rd32Mbox1Status | rd32Mbox1Write | rd32UartDr
  | rd32UartRsrecr | rd32UartFr | rd32UartIbrd | rd32UartFbrd | rd32UartLcrh | rd32UartCr | rd32UartIfls | rd32UartImsc
  | rd32UartRis | rd32UartMis | rd32UartIcr => exact decode_readKey_encodeDest (by decide) rfl h rest
  | wr32Gpfsel0 | wr32Gpfsel1 | wr32Gpfsel2 | wr32Gpfsel3 | wr32Gpfsel4 | wr32Gpfsel5 | wr32Gppud | wr32Gppudclk0
  | wr32Gppudclk1 | wr32Gpset0 | wr32Gpset1 | wr32Gpclr0 | wr32Gpclr1 | wr32Gplev0 | wr32Gplev1 | wr32StCs | wr32StC0
  | wr32StC1 | wr32StC2 | wr32StC3 | wr32StClo | wr32StChi | wr32FiqControl | wr32EnableIrqs1 | wr32EnableIrqs2
  | wr32EnableBasic | wr32DisableIrqs1 | wr32DisableIrqs2 | wr32DisableBasic | wr32IrqBasicPending | wr32IrqPending1
  | wr32IrqPending2 | wr32Mbox1Write | wr32Mbox0Read | wr32Mbox0Peek | wr32Mbox0Status | wr32Mbox1Status | wr32UartDr
  | wr32UartRsrecr | wr32UartIbrd | wr32UartFbrd | wr32UartLcrh | wr32UartCr | wr32UartIfls | wr32UartImsc | wr32UartIcr
  | wr32UartFr | wr32UartRis | wr32UartMis =>
    exact decode_writeKey_encodeExpr (by decide) (by decide) rfl h rest
  | dmb | cpsie | cpsid | iret | timerOnInterrupt | irqInstall | handleIrq | uartDrain => exact decode_opKey (by decide) rfl rfl
  | setvbar | timerSleepUs | timerSleepMs | timerArmPeriodic | uartPutc | echo | uartPutdec | uartPuthex =>
    exact decode_opKey (by decide) rfl (parse1_of_some (decodeExpr_encodeExpr h rest) _)
  | mboxCall | getDisplaySurface | timerNowUs | timerNowUs64 | ticksMs | uartGetc | uartGetcNb =>
    exact decode_opKey (by decide) rfl (parse1_of_some (decodeRet_encodeRet h rest) _)
  | spin n => exact decode_opKey (by decide) rfl (parse1_of_some (decodeNat_encodeNat n rest) _)
  | uartPuts bytes => exact decode_opKey (by decide) rfl (parse1_of_some (decodeBytes_encodeBytes bytes rest) _)
  | installInputHandler => exact decode_opKey (by decide) rfl (parse1_of_some (decodeHandler_encodeHandler h rest) _)
  | uartInit => exact decode_opKey (by decide) rfl (parse1_of_some (decodeBaud_encodeBaud h rest) _)
  | ldw a d =>
    obtain ⟨ha, hd⟩ := Bool.and_eq_true_iff.1 h
    exact decode_opKey (by decide) rfl (parse2_of_some (decodeExpr_encodeExpr ha _) (decodeDest_encodeDest hd rest) _)
  | stw a v =>
    obtain ⟨ha, hv⟩ := Bool.and_eq_true_iff.1 h
    exact decode_opKey (by decide) rfl (parse2_of_some (decodeExpr_encodeExpr ha _) (decodeExpr_encodeExpr hv rest) _)
  | gpioSetFunction p f =>
    exact decode_opKey (by decide) rfl
      (parse2_of_some (decodeNat_encodeNat p _) (decodeNatUpTo_encodeNat (of_decide_eq_true h) rest) _)
  | gpioSetOutput p level =>
    exact decode_opKey (by decide) rfl (parse2_of_some (decodeNat_encodeNat p _) (decodeExpr_encodeExpr h rest) _)
  | gpioGetInput p r =>
    exact decode_opKey (by decide) rfl (parse2_of_some (decodeNat_encodeNat p _) (decodeRet_encodeRet h rest) _)
  | gpioSetPull p mode =>
    exact decode_opKey (by decide) rfl
      (parse2_of_some (decodeNat_encodeNat p _) (decodeNatUpTo_encodeNat (of_decide_eq_true h) rest) _)


/-! ### Operands that the decoder answers are well formed -/

/-- The grammar's check of a slice is the decoder's; every other shape is well formed when its parts are. -/
theorem wf_of_decodeExprFuel {fuel : Nat} {ws rest : List Word} {e : Expr} (h : decodeExprFuel fuel ws = some (e, rest)) :
    e.wf = true := by
  induction fuel generalizing ws e rest with
  | zero => cases h
  | succ fuel ih =>
    cases ws with
    | nil => cases h
    | cons t ws =>
      unfold decodeExprFuel at h
      split at h
      · split at h <;> cases h
        rfl
      split at h
      · split at h <;> cases h
        rfl
      split at h
      · split at h <;> cases h
        next ha => exact (ih ha :)
      split at h
      · split at h <;> [skip; cases h]
        next hc =>
        split at h <;> [skip; cases h]
        next ha =>
        split at h <;> cases h
        next hb => simp only [Expr.wf, ih hc, ih ha, ih hb, Bool.and_self]
      split at h
      · split at h <;> [skip; cases h]
        split at h <;> [skip; cases h]
        split at h <;> [skip; cases h]
        next ha =>
        split at h <;> cases h
        next hbits => simp only [Expr.wf, hbits, ih ha, decide_true, Bool.and_self]
      · split at h <;> [skip; cases h]
        split at h <;> [skip; cases h]
        next ha =>
        split at h <;> cases h
        next hb => simp only [Expr.wf, ih ha, ih hb, Bool.and_self]

theorem wf_of_decodeExpr {ws rest : List Word} {e : Expr} (h : decodeExpr ws = some (e, rest)) : e.wf = true :=
  wf_of_decodeExprFuel h

theorem wf_of_decodeRet {ws rest : List Word} {r : Ret} (h : decodeRet ws = some (r, rest)) : r.wf = true := by
  obtain ⟨_, _, heq⟩ := Option.map_eq_some_iff.1 h
  cases heq
  rfl

theorem wf_of_decodeDest {ws rest : List Word} {d : Dest} (h : decodeDest ws = some (d, rest)) : d.wf = true := by
  obtain ⟨_, hret, heq⟩ := Option.map_eq_some_iff.1 h
  cases heq
  exact wf_of_decodeRet hret

theorem wf_of_decodeBaud {ws rest : List Word} {o : Option Expr} (h : decodeBaud ws = some (o, rest)) :
    o.all Expr.wf = true := by
  cases ws with
  | nil => cases h
  | cons t ws =>
    rw [decodeBaud] at h
    split at h
    · cases h
      rfl
    · split at h <;> cases h
      next he => exact wf_of_decodeExpr he

theorem le_of_decodeNatUpTo {m n : Nat} {ws rest : List Word} (h : decodeNatUpTo m ws = some (n, rest)) : n ≤ m := by
  rw [decodeNatUpTo] at h
  split at h <;> [skip; cases h]
  split at h <;> cases h
  assumption

theorem length_of_takeRows {n : Nat} {ws rest : List Word} {rows : List (List Word)} (h : takeRows n ws = some (rows, rest)) :
    rows.length = n := by
  induction n generalizing ws rows rest with
  | zero =>
    cases h
    rfl
  | succ n ih =>
    rw [takeRows] at h
    split at h <;> [skip; cases h]
    split at h <;> [skip; cases h]
    obtain ⟨_, hrows, heq⟩ := Option.map_eq_some_iff.1 h
    cases heq
    rw [List.length_cons, ih hrows]

theorem wf_of_decodeHandler {ws rest : List Word} {x : Handler} (h : decodeHandler ws = some (x, rest)) : x.wf = true := by
  rw [decodeHandler] at h
  split at h
  · cases h
    rfl
  · split at h <;> [skip; cases h]
    next hn =>
    obtain ⟨_, hrows, heq⟩ := Option.map_eq_some_iff.1 h
    cases heq
    exact decide_eq_true ((length_of_takeRows hrows).trans_le hn)
  · cases h

/-! ### The catalogue gives the key (R302) -/

theorem mem_of_lookup_eq_some {α : Type} {n : Nat} {l : List (Nat × α)} {a : α} (h : l.lookup n = some a) : (n, a) ∈ l := by
  obtain ⟨before, after, heq, _⟩ := List.lookup_eq_some_iff.1 h
  exact heq ▸ List.mem_append_right before List.mem_cons_self

/-- A row of a block's reads: its instruction's key is the row's offset, its operand is the destination. -/
theorem key_of_mem_reads (b : Block) : ∀ row ∈ b.reads, ∀ d,
    (row.2 d).key = BitVec.ofNat 32 (b.base + row.1) ∧ (row.2 d).wf = d.wf := by
  cases b <;> intro row hrow d <;> fin_cases hrow <;> exact ⟨rfl, rfl⟩

theorem key_of_mem_writes (b : Block) : ∀ row ∈ b.writes, ∀ e,
    (row.2 e).key = BitVec.ofNat 32 (0x1000000 + (b.base + row.1)) ∧ (row.2 e).wf = e.wf := by
  cases b <;> intro row hrow d <;> fin_cases hrow <;> exact ⟨rfl, rfl⟩

theorem offset_of_blockOf {off : Nat} {x : Block × Nat} (h : blockOf off = some x) : off = x.1.base + x.2 := by
  obtain ⟨b, hb, rfl⟩ := Option.map_eq_some_iff.1 h
  have hrange := List.find?_some hb
  simp only [Bool.and_eq_true, decide_eq_true_eq] at hrange
  exact (Nat.add_sub_cancel' hrange.1).symm

theorem key_of_readAt {off : Nat} {f : Dest → Instr} (h : readAt off = .ok f) (d : Dest) :
    (f d).key = BitVec.ofNat 32 off ∧ (f d).wf = d.wf := by
  rw [readAt] at h
  split at h <;> [skip; cases h]
  split at h <;> cases h
  next hrow =>
  obtain ⟨x, hx, hlookup⟩ := Option.bind_eq_some_iff.1 hrow
  rw [offset_of_blockOf hx]
  exact key_of_mem_reads x.1 _ (mem_of_lookup_eq_some hlookup) d

theorem key_of_writeAt {off : Nat} {f : Expr → Instr} (h : writeAt off = .ok f) (e : Expr) :
    (f e).key = BitVec.ofNat 32 (0x1000000 + off) ∧ (f e).wf = e.wf := by
  rw [writeAt] at h
  split at h <;> [skip; cases h]
  split at h <;> cases h
  next hrow =>
  obtain ⟨x, hx, hlookup⟩ := Option.bind_eq_some_iff.1 hrow
  rw [offset_of_blockOf hx]
  exact key_of_mem_writes x.1 _ (mem_of_lookup_eq_some hlookup) e

theorem parse1_eq_some {α : Type} {p : List Word → Option (α × List Word)} {f : α → Instr} {ws rest : List Word} {i : Instr}
    (h : parse1 p f ws = some (i, rest)) : ∃ a ws', p ws = some (a, ws') ∧ i = f a := by
  rw [parse1] at h
  split at h <;> cases h
  next ha => exact ⟨_, _, ha, rfl⟩

theorem parse2_eq_some {α β : Type} {p : List Word → Option (α × List Word)} {q : List Word → Option (β × List Word)}
    {f : α → β → Instr} {ws rest : List Word} {i : Instr} (h : parse2 p q f ws = some (i, rest)) :
    ∃ a b us vs ws', p ws = some (a, vs) ∧ q us = some (b, ws') ∧ i = f a b := by
  rw [parse2] at h
  split at h <;> [skip; cases h]
  next ha =>
  split at h <;> cases h
  next hb => exact ⟨_, _, _, _, _, ha, hb, rfl⟩

/-- What a row of the primitives and operations answers is well formed and has the row's key, bits 31:8 of the word. -/
def RowAnswers (row : Nat × (List Word → Option (Instr × List Word))) : Prop :=
  ∀ ws rest i, row.2 ws = some (i, rest) → i.wf = true ∧ i.key = BitVec.ofNat 32 (256 * row.1)

theorem rowAnswers_parse0 {n : Nat} {i : Instr} (hwf : i.wf = true) (hkey : i.key = BitVec.ofNat 32 (256 * n)) :
    RowAnswers (n, parse0 i) := by
  rintro ws rest _ ⟨⟩
  exact ⟨hwf, hkey⟩

theorem rowAnswers_parse1 {α : Type} {n : Nat} {p : List Word → Option (α × List Word)} {f : α → Instr}
    (hwf : ∀ ws a ws', p ws = some (a, ws') → (f a).wf = true) (hkey : ∀ a, (f a).key = BitVec.ofNat 32 (256 * n)) :
    RowAnswers (n, parse1 p f) := by
  intro ws rest i h
  obtain ⟨a, ws', ha, rfl⟩ := parse1_eq_some h
  exact ⟨hwf _ _ _ ha, hkey a⟩

theorem rowAnswers_parse2 {α β : Type} {n : Nat} {p : List Word → Option (α × List Word)}
    {q : List Word → Option (β × List Word)} {f : α → β → Instr}
    (hwf : ∀ us a us' vs b vs', p us = some (a, us') → q vs = some (b, vs') → (f a b).wf = true)
    (hkey : ∀ a b, (f a b).key = BitVec.ofNat 32 (256 * n)) : RowAnswers (n, parse2 p q f) := by
  intro ws rest i h
  obtain ⟨a, b, _, _, _, ha, hb, rfl⟩ := parse2_eq_some h
  exact ⟨hwf _ _ _ _ _ _ ha hb, hkey a b⟩

theorem rowAnswers_of_mem : ∀ row ∈ cpuOps ++ driverOps, RowAnswers row := by
  simp only [cpuOps, driverOps, List.cons_append, List.nil_append, List.forall_mem_cons, List.not_mem_nil, false_imp_iff,
    implies_true, and_true]
  have expr {n : Nat} {f : Expr → Instr} (hwf : ∀ e, (f e).wf = e.wf) (hkey : ∀ e, (f e).key = BitVec.ofNat 32 (256 * n)) :
      RowAnswers (n, parse1 decodeExpr f) :=
    rowAnswers_parse1 (fun _ _ _ h => (hwf _).trans (wf_of_decodeExpr h)) hkey
  have ret {n : Nat} {f : Ret → Instr} (hwf : ∀ r, (f r).wf = r.wf) (hkey : ∀ r, (f r).key = BitVec.ofNat 32 (256 * n)) :
      RowAnswers (n, parse1 decodeRet f) :=
    rowAnswers_parse1 (fun _ _ _ h => (hwf _).trans (wf_of_decodeRet h)) hkey
  have done {n : Nat} {i : Instr} (hwf : i.wf = true) (hkey : i.key = BitVec.ofNat 32 (256 * n)) :=
    rowAnswers_parse0 hwf hkey
  exact ⟨done rfl rfl, expr (fun _ => rfl) fun _ => rfl, done rfl rfl, done rfl rfl,
    rowAnswers_parse1 (fun _ _ _ _ => rfl) fun _ => rfl, done rfl rfl,
    rowAnswers_parse2 (fun _ _ _ _ _ _ ha hd => Bool.and_eq_true_iff.2 ⟨wf_of_decodeExpr ha, wf_of_decodeDest hd⟩) fun _ _ => rfl,
    rowAnswers_parse2 (fun _ _ _ _ _ _ ha hv => Bool.and_eq_true_iff.2 ⟨wf_of_decodeExpr ha, wf_of_decodeExpr hv⟩) fun _ _ => rfl,
    rowAnswers_parse2 (fun _ _ _ _ _ _ _ hf => decide_eq_true (le_of_decodeNatUpTo hf)) fun _ _ => rfl,
    rowAnswers_parse2 (fun _ _ _ _ _ _ _ hl => wf_of_decodeExpr hl) fun _ _ => rfl,
    rowAnswers_parse2 (fun _ _ _ _ _ _ _ hr => wf_of_decodeRet hr) fun _ _ => rfl,
    rowAnswers_parse2 (fun _ _ _ _ _ _ _ hm => decide_eq_true (le_of_decodeNatUpTo hm)) fun _ _ => rfl,
    ret (fun _ => rfl) fun _ => rfl, ret (fun _ => rfl) fun _ => rfl, ret (fun _ => rfl) fun _ => rfl,
    ret (fun _ => rfl) fun _ => rfl, expr (fun _ => rfl) fun _ => rfl, expr (fun _ => rfl) fun _ => rfl,
    expr (fun _ => rfl) fun _ => rfl, done rfl rfl, ret (fun _ => rfl) fun _ => rfl, done rfl rfl, done rfl rfl, done rfl rfl,
    rowAnswers_parse1 (fun _ _ _ h => wf_of_decodeHandler h) fun _ => rfl,
    rowAnswers_parse1 (fun _ _ _ h => wf_of_decodeBaud h) fun _ => rfl, expr (fun _ => rfl) fun _ => rfl,
    rowAnswers_parse1 (fun _ _ _ _ => rfl) fun _ => rfl, ret (fun _ => rfl) fun _ => rfl, ret (fun _ => rfl) fun _ => rfl,
    expr (fun _ => rfl) fun _ => rfl, expr (fun _ => rfl) fun _ => rfl, expr (fun _ => rfl) fun _ => rfl⟩

theorem finish_eq_ok {key : Nat} {o : Option (Instr × List Word)} {i : Instr} {rest : List Word}
    (h : finish key o = .ok i rest) : o = some (i, rest) := by
  cases o <;> cases h
  rfl

/-- Bits 31:8 of a word. -/
theorem and_keyMask (w : Word) : w &&& 0xFFFFFF00#32 = BitVec.ofNat 32 (256 * (w.toNat / 256)) := by
  have mask : ∀ i < 32, (0xFFFFFF00#32).getLsbD i = decide (8 ≤ i) := by decide
  refine BitVec.eq_of_getLsbD_eq fun i hi => ?_
  rw [BitVec.getLsbD_and, mask i hi, BitVec.getLsbD_ofNat, decide_eq_true hi, Bool.true_and, show 256 = 2 ^ 8 from rfl,
    Nat.testBit_two_pow_mul, Nat.testBit_div_two_pow, Bool.and_comm]
  by_cases h : 8 ≤ i
  · rw [Nat.sub_add_cancel h, BitVec.testBit_toNat]
  · rw [decide_eq_false h, Bool.false_and, Bool.false_and]

/-- Settles O3: a register access is a row of the catalogue, any other operation a row of the two tables of operations. -/
theorem decodedInstructionHasItsKey : Obligations.DecodedInstructionHasItsKey := by
  intro w ws rest i h
  simp only [decode] at h
  split at h
  · next hread =>
    rw [if_pos (by omega)]
    split at h <;> [skip; cases h]
    next f hf =>
    obtain ⟨d, _, hd, rfl⟩ := parse1_eq_some (finish_eq_ok h)
    obtain ⟨hkey, hwf⟩ := key_of_readAt hf d
    exact ⟨hwf.trans (wf_of_decodeDest hd), hkey.trans (BitVec.ofNat_toNat 32 w)⟩
  · split at h
    · next hwrite =>
      rw [if_pos hwrite]
      split at h <;> [skip; cases h]
      next f hf =>
      obtain ⟨e, _, he, rfl⟩ := parse1_eq_some (finish_eq_ok h)
      obtain ⟨hkey, hwf⟩ := key_of_writeAt hf e
      rw [Nat.add_sub_cancel' (by omega)] at hkey
      exact ⟨hwf.trans (wf_of_decodeExpr he), hkey.trans (BitVec.ofNat_toNat 32 w)⟩
    · next hop =>
      rw [if_neg hop, and_keyMask]
      split at h <;> [skip; cases h]
      next p hp => exact rowAnswers_of_mem _ (mem_of_lookup_eq_some hp) ws rest i (finish_eq_ok h)

/-! ### Bus transactions (R301) -/

/-- What the decoder answers where a transaction is an instruction, or is refused. -/
def Decoded.ofExcept : Except Reject Instr → Decoded
  | .ok i => .ok i []
  | .error e => .reject e

theorem decode_readKey_local {off : Nat} (ho : off < 0x1000000) (x : Nat) :
    decode (BitVec.ofNat 32 off :: encodeNat x) = .ofExcept ((readAt off).map fun f => f (.ret (.loc x))) := by
  have hk : (BitVec.ofNat 32 off).toNat = off := Nat.mod_eq_of_lt (by omega)
  have operand : decodeDest (encodeNat x) = some (.ret (.loc x), []) := by
    simpa only [List.append_nil, encodeDest, encodeRet] using decodeDest_encodeDest (d := .ret (.loc x)) rfl []
  cases hf : readAt off with
  | ok f =>
    rw [decode_read hk ho hf, parse1, operand]
    rfl
  | error e =>
    simp only [decode, hk, if_pos ho, hf]
    rfl

theorem decode_writeKey_lit {off : Nat} (ho : off < 0x1000000) (v : Word) :
    decode (BitVec.ofNat 32 (0x1000000 + off) :: encodeExpr (.lit v)) =
      .ofExcept ((writeAt off).map fun f => f (.lit v)) := by
  have hk : (BitVec.ofNat 32 (0x1000000 + off)).toNat = 0x1000000 + off := Nat.mod_eq_of_lt (by omega)
  have hhigh : ¬ 0x1000000 + off < 0x1000000 := by omega
  have hwrite : 0x1000000 + off < 0x2000000 := by omega
  have operand : decodeExpr (encodeExpr (.lit v)) = some (.lit v, []) := by
    simpa only [List.append_nil] using decodeExpr_encodeExpr (e := .lit v) rfl []
  cases hf : writeAt off with
  | ok f =>
    rw [decode_write hk ho hf, parse1, operand]
    rfl
  | error e =>
    simp only [decode, hk, if_neg hhigh, if_pos hwrite, Nat.add_sub_cancel_left, hf]
    rfl

theorem Transaction.offset_of_inWindow {base : Word} {t : Transaction} (hsize : t.size = 4)
    (hwin : ¬ (t.addr.toNat < base.toNat ∨ 0x1000000 ≤ t.addr.toNat - base.toNat)) : t.offset base =
      if (t.addr.toNat - base.toNat) % 4 ≠ 0 then .error (.misalignedOffset (t.addr.toNat - base.toNat))
      else .ok (t.addr.toNat - base.toNat) := by
  rw [Transaction.offset, if_neg (not_not_intro hsize), if_neg hwin]

/-- R301 step 2: the catalogue refuses a misaligned offset under the name that the transaction does. -/
theorem Transaction.instr_of_read {base : Word} {t : Transaction} (hdir : t.dir = .read) (hsize : t.size = 4)
    (hwin : ¬ (t.addr.toNat < base.toNat ∨ 0x1000000 ≤ t.addr.toNat - base.toNat)) (d : Dest) :
    t.instr base d = (readAt (t.addr.toNat - base.toNat)).map fun f => f d := by
  rw [Transaction.instr, Transaction.offset_of_inWindow hsize hwin, hdir]
  by_cases halign : (t.addr.toNat - base.toNat) % 4 = 0
  · rw [if_neg (not_not_intro halign)]
  · rw [if_pos halign, readAt, if_neg halign]
    rfl

theorem Transaction.instr_of_write {base : Word} {t : Transaction} (hdir : t.dir = .write) (hsize : t.size = 4)
    (hwin : ¬ (t.addr.toNat < base.toNat ∨ 0x1000000 ≤ t.addr.toNat - base.toNat)) (d : Dest) :
    t.instr base d = (writeAt (t.addr.toNat - base.toNat)).map fun f => f (.lit t.data) := by
  rw [Transaction.instr, Transaction.offset_of_inWindow hsize hwin, hdir]
  by_cases halign : (t.addr.toNat - base.toNat) % 4 = 0
  · rw [if_neg (not_not_intro halign)]
  · rw [if_pos halign, writeAt, if_neg halign]
    rfl

theorem Transaction.instr_of_wrongWidth {base : Word} {t : Transaction} (hsize : t.size ≠ 4) (d : Dest) :
    t.instr base d = .error (.wrongWidth t.size) := by
  rw [Transaction.instr, Transaction.offset, if_pos hsize]

theorem Transaction.instr_of_outside {base : Word} {t : Transaction} (hsize : t.size = 4)
    (hwin : t.addr.toNat < base.toNat ∨ 0x1000000 ≤ t.addr.toNat - base.toNat) (d : Dest) :
    t.instr base d = .error (.outsideWindow t.addr.toNat) := by
  rw [Transaction.instr, Transaction.offset, if_neg (not_not_intro hsize), if_pos hwin]

/-- Settles O4: of another size, outside the window, or in it and then a row of the catalogue by the direction. -/
theorem transactionIsTheInstructionOfItsKey : Obligations.TransactionIsTheInstructionOfItsKey := by
  intro base x t off answer asDecoded
  have decoded {r : Except Reject Instr} (h : answer = r) : asDecoded = .ofExcept r := by
    subst h
    show (match answer with | .ok i => Decoded.ok i [] | .error e => .reject e) = _
    cases answer <;> rfl
  split
  case isTrue hsize => exact Transaction.instr_of_wrongWidth hsize _
  case isFalse hsize =>
    have hsize : t.size = 4 := not_not.1 hsize
    split
    case isTrue hwin => exact Transaction.instr_of_outside hsize hwin _
    case isFalse hwin =>
      have hoff : off < 0x1000000 := by omega
      cases hdir : t.dir with
      | read => exact (decode_readKey_local hoff x).trans (decoded (Transaction.instr_of_read hdir hsize hwin _)).symm
      | write => exact (decode_writeKey_lit hoff t.data).trans (decoded (Transaction.instr_of_write hdir hsize hwin _)).symm

end Sys2Proof
end

section
/-! PROOFS. What a primitive does to the registers, said once for all 131 instructions (`exec_cases`): a proof about every step takes
the cases of `RegisterEffect` and of `StepEnd`. -/

namespace Sys2Proof.Machine

open Sys2Proof

/-- What an instruction does to the state before its cost, and before the value of a read arrives. -/
inductive RegisterEffect (s : State) : State → Prop where
  | none : RegisterEffect s s
  | soft (x : Soft) : RegisterEffect s (s.setSoft x)
  | timer (x : Timer) : RegisterEffect s (s.setTimer x)
  /-- RAM, below the peripheral base (40 R411). -/
  | store (a : Nat) (v : Word) (ha : a + 3 < 4294967296) : RegisterEffect s (s.putWord a v)
  /-- 41 R502. -/
  | functionSelect (k : Nat) (v : Word) : RegisterEffect s (s.setGpio (fselWrite s.gpio k v))
  /-- 41 R523 to R526. -/
  | outputs (x : BitVec 54) : RegisterEffect s (s.setGpio { s.gpio with out := x })
  /-- 41 R517. -/
  | pullControl (mode : BitVec 2) (hmode : mode ≠ 3#2) : RegisterEffect s (s.setGpio (pudWrite s mode))
  /-- 41 R521, R522. -/
  | pullClock (h : Nat) (v : Word) : RegisterEffect s (s.setGpio (pudclkWrite s h v))
  /-- 44 R812 to R814, R818 to R820. -/
  | enables (e1 e2 : Word) (eb : BitVec 8) :
    RegisterEffect s (s.setIntc { s.intc with en1 := e1, en2 := e2, enb := eb })
  /-- 44 R808. -/
  | fiqControl (x : BitVec 8) (hx : x.getLsbD 7 = false) : RegisterEffect s (s.setIntc { s.intc with fiqc := x })
  /-- 42 R600. -/
  | popInbound (w : Word) (ws : List Word) (h : s.mbox.inq = w :: ws) :
    RegisterEffect s (s.setMbox { s.mbox with inq := ws })
  /-- 42 R604. -/
  | pushOutbound (w : Word) (h : s.mbox.outq.length ≠ s.params.mboxDepth) :
    RegisterEffect s (s.setMbox { s.mbox with outq := s.mbox.outq ++ [w] })
  /-- 45 R902. -/
  | popReceived (e : RxEntry) (rest : List RxEntry) (h : s.uart.rxq = e :: rest) :
    RegisterEffect s (s.setUart (popRx s.uart e rest))
  /-- 45 R903. -/
  | pushTransmit (b : Byte) (h : s.uart.txq.length ≠ s.uart.cap) :
    RegisterEffect s (s.setUart { s.uart with txq := s.uart.txq ++ [b] })
  /-- 45 R908, R910. -/
  | divisor (ok : Bool) (i : BitVec 16) (f : BitVec 6) :
    RegisterEffect s (s.setUart { s.uart with lcrOk := ok, ibrd := i, fbrd := f })
  /-- 45 R912. -/
  | lineControl (l : BitVec 8) : RegisterEffect s (s.setUart (lcrhWrite s.uart l))
  /-- 45 R917. -/
  | uartControl (x : Word) (h : (x.getLsbD 1 || x.getLsbD 2 || x.getLsbD 14 || x.getLsbD 15) = false) :
    RegisterEffect s (s.setUart { s.uart with cr := x.setWidth 16 &&& 0xFF87#16 })
  /-- 45 R919. -/
  | triggerLevels (x : Word) (h : ¬ (4 < (x.extractLsb' 0 3).toNat ∨ 4 < (x.extractLsb' 3 3).toNat)) :
    RegisterEffect s (s.setUart { s.uart with ifls := x.extractLsb' 0 6 })
  /-- 45 R905, R921. -/
  | statusAndMask (r : BitVec 4) (m : BitVec 11) : RegisterEffect s (s.setUart { s.uart with rsr := r, imsc := m })
  /-- 45 R911. -/
  | clearInterrupts (x : BitVec 11) : RegisterEffect s (s.setUart { s.uart with ris := s.uart.ris &&& x })
  /-- 40 R421. -/
  | installTable (a : Word) (hset : s.cpu.vbarSet = false) (ha : a.toNat % 32 = 0) :
    RegisterEffect s (s.setCpu { s.cpu with vbar := a, vbarSet := true })
  /-- 40 R422, R423. -/
  | maskIrq (m : Bool) (h : m = true ∨ s.cpu.ctx = .fg) : RegisterEffect s (s.setCpu { s.cpu with irqMask := m })
  /-- 40 R425. -/
  | returnFromIrq (h : s.cpu.ctx = .irq) : RegisterEffect s (s.setCpu { s.cpu with
      cont := s.cpu.saved.getD [], saved := .none, irqMask := s.cpu.savedMask, ctx := .fg })

/-- How an instruction ends: with its cost, and with the value of a read or the result or the expansion of an operation. -/
inductive StepEnd (u : State) : State → Prop where
  | paid (n : Nat) : StepEnd u (u.retire n)
  | read (d : Dest) (v : Word) : StepEnd u (deliver d v (u.retire 1))
  | expanded (ts : List Task) : StepEnd u (u.push ts)
  | result (r : Ret) (v : Value) : StepEnd u (giveResult r v u)
  | paidResult (r : Ret) (v : Value) : StepEnd u (giveResult r v (u.retire 1))

/-- What an instruction that answers a next state has done. -/
theorem exec_cases {i : Instr} {s t : State} (h : exec i s = .next t) : ∃ u, RegisterEffect s u ∧ StepEnd u t := by
  cases i with
  | rd32Gpfsel0 | rd32Gpfsel1 | rd32Gpfsel2 | rd32Gpfsel3 | rd32Gpfsel4 | rd32Gpfsel5 | rd32Gppud | rd32Gppudclk0
  | rd32Gppudclk1 | rd32Gplev0 | rd32Gplev1 | rd32Gpset0 | rd32Gpset1 | rd32Gpclr0 | rd32Gpclr1 | rd32StCs | rd32StClo
  | rd32StChi | rd32StC0 | rd32StC1 | rd32StC2 | rd32StC3 | rd32IrqBasicPending | rd32IrqPending1 | rd32IrqPending2
  | rd32FiqControl | rd32EnableIrqs1 | rd32EnableIrqs2 | rd32EnableBasic | rd32DisableIrqs1 | rd32DisableIrqs2
  | rd32DisableBasic | rd32Mbox0Status | rd32Mbox1Status | rd32Mbox1Write | rd32UartRsrecr | rd32UartFr | rd32UartIbrd
  | rd32UartFbrd | rd32UartLcrh | rd32UartCr | rd32UartIfls | rd32UartImsc | rd32UartRis | rd32UartMis | rd32UartIcr =>
    cases h; exact ⟨s, .none, .read _ _⟩
  | wr32Gplev0 | wr32Gplev1 | wr32StClo | wr32StChi | wr32IrqBasicPending | wr32IrqPending1 | wr32IrqPending2
  | wr32Mbox0Read | wr32Mbox0Peek | wr32Mbox0Status | wr32Mbox1Status | wr32UartFr | wr32UartRis | wr32UartMis | dmb | spin =>
    cases h; exact ⟨s, .none, .paid _⟩
  | wr32Gpfsel0 v => cases h; exact ⟨_, .functionSelect 0 (s.eval v), .paid 1⟩
  | wr32Gpfsel1 v => cases h; exact ⟨_, .functionSelect 1 (s.eval v), .paid 1⟩
  | wr32Gpfsel2 v => cases h; exact ⟨_, .functionSelect 2 (s.eval v), .paid 1⟩
  | wr32Gpfsel3 v => cases h; exact ⟨_, .functionSelect 3 (s.eval v), .paid 1⟩
  | wr32Gpfsel4 v => cases h; exact ⟨_, .functionSelect 4 (s.eval v), .paid 1⟩
  | wr32Gpfsel5 v => cases h; exact ⟨_, .functionSelect 5 (s.eval v), .paid 1⟩
  | wr32Gpset0 | wr32Gpset1 | wr32Gpclr0 | wr32Gpclr1 => cases h; exact ⟨_, .outputs _, .paid 1⟩
  | wr32Gppud v =>
    simp only [exec, execWr32Gppud] at h
    split at h <;> cases h
    next hmode => exact ⟨_, .pullControl _ hmode, .paid 1⟩
  | wr32Gppudclk0 v => cases h; exact ⟨_, .pullClock 0 (s.eval v), .paid 1⟩
  | wr32Gppudclk1 v => cases h; exact ⟨_, .pullClock 1 (s.eval v), .paid 1⟩
  | wr32StCs | wr32StC0 | wr32StC1 | wr32StC2 | wr32StC3 => cases h; exact ⟨_, .timer _, .paid 1⟩
  | wr32EnableIrqs1 | wr32EnableIrqs2 | wr32EnableBasic | wr32DisableIrqs1 | wr32DisableIrqs2 | wr32DisableBasic =>
    cases h; exact ⟨_, .enables _ _ _, .paid 1⟩
  | wr32FiqControl v =>
    simp only [exec, execWr32FiqControl] at h
    split at h <;> cases h
    next hfiq =>
    refine ⟨_, .fiqControl _ ?_, .paid 1⟩
    rw [BitVec.getLsbD_setWidth, Bool.eq_false_iff.2 hfiq, Bool.and_false]
  | rd32Mbox0Read d =>
    simp only [exec, execRd32Mbox0Read] at h
    split at h <;> cases h
    · exact ⟨s, .none, .read _ _⟩
    · next hq => exact ⟨_, .popInbound _ _ hq, .read _ _⟩
  | rd32Mbox0Peek d =>
    simp only [exec, execRd32Mbox0Peek] at h
    split at h <;> cases h <;> exact ⟨s, .none, .read _ _⟩
  | wr32Mbox1Write v =>
    simp only [exec, execWr32Mbox1Write] at h
    split at h <;> cases h
    next hroom => exact ⟨_, .pushOutbound _ hroom, .paid 1⟩
  | rd32UartDr d =>
    simp only [exec, execRd32UartDr] at h
    split at h <;> cases h
    · exact ⟨s, .none, .read _ _⟩
    · next hq => exact ⟨_, .popReceived _ _ hq, .read _ _⟩
  | wr32UartDr v =>
    simp only [exec, execWr32UartDr] at h
    split at h <;> cases h
    next hroom => exact ⟨_, .pushTransmit _ hroom, .paid 1⟩
  | wr32UartIbrd | wr32UartFbrd => cases h; exact ⟨_, .divisor _ _ _, .paid 1⟩
  | wr32UartLcrh => cases h; exact ⟨_, .lineControl _, .paid 1⟩
  | wr32UartCr v =>
    simp only [exec, execWr32UartCr] at h
    split at h <;> cases h
    next hmode => exact ⟨_, .uartControl _ (Bool.eq_false_iff.2 hmode), .paid 1⟩
  | wr32UartIfls v =>
    have hlevel : ¬ (4 < ((s.eval v).extractLsb' 0 3).toNat ∨ 4 < ((s.eval v).extractLsb' 3 3).toNat) := fun hres => by
      cases (execWr32UartIfls_of_reserved hres).symm.trans h
    cases (execWr32UartIfls_of_level hlevel).symm.trans h
    exact ⟨_, .triggerLevels _ hlevel, .paid 1⟩
  | wr32UartRsrecr | wr32UartImsc => cases h; exact ⟨_, .statusAndMask _ _, .paid 1⟩
  | wr32UartIcr => cases h; exact ⟨_, .clearInterrupts _, .paid 1⟩
  | setvbar a =>
    simp only [exec, execSetvbar] at h
    split at h <;> [cases h; skip]
    next hset =>
    split at h <;> cases h
    next ha => exact ⟨_, .installTable _ (Bool.eq_false_iff.2 hset) (not_not.1 ha), .paid 1⟩
  | cpsie =>
    simp only [exec, execCpsie] at h
    split at h <;> cases h
    next hctx => exact ⟨_, .maskIrq false (.inr (by cases hc : s.cpu.ctx <;> [rfl; exact absurd hc hctx])), .paid 1⟩
  | cpsid => cases h; exact ⟨_, .maskIrq true (.inl rfl), .paid 1⟩
  | iret =>
    obtain ⟨hctx, rfl⟩ := returnException_spec h
    exact ⟨_, .returnFromIrq hctx, .paid 1⟩
  | ldw a d =>
    simp only [exec, execLdw] at h
    split at h <;> cases h
    exact ⟨s, .none, .read _ _⟩
  | stw a v =>
    simp only [exec, execStw] at h
    split at h <;> [cases h; skip]
    next hram =>
    split at h <;> cases h
    exact ⟨_, .store _ _ (ramFault_bound hram), .paid 1⟩
  | gpioGetInput p r =>
    simp only [exec, execGpioGetInput] at h
    split at h <;> cases h
    · exact ⟨s, .none, .result _ _⟩
    · exact ⟨s, .none, .expanded _⟩
  | getDisplaySurface r =>
    simp only [exec, execGetDisplaySurface] at h
    split at h <;> cases h
    exact ⟨s, .none, .result _ _⟩
  | uartInit baud =>
    simp only [exec, execUartInit] at h
    split at h <;> cases h
    exact ⟨s, .none, .expanded _⟩
  | ticksMs => cases h; exact ⟨s, .none, .paidResult _ _⟩
  | installInputHandler => cases h; exact ⟨_, .soft _, .paid 1⟩
  | gpioSetFunction | gpioSetOutput | gpioSetPull | mboxCall | timerNowUs | timerNowUs64 | timerSleepUs | timerSleepMs
  | timerArmPeriodic | timerOnInterrupt | irqInstall | handleIrq | uartDrain | uartPutc | uartPuts | uartGetc | uartGetcNb
  | echo | uartPutdec | uartPuthex => cases h; exact ⟨s, .none, .expanded _⟩

end Sys2Proof.Machine
end

section
/-! PROOFS. What every step keeps (10_state, 30_encoding R330 d): the machine's invariant and the legal fields, first through the
effect of an instruction and its end, then through the step of each agent. -/

namespace Sys2Proof.Machine

open Sys2Proof

/-! ### The absent modem bits of `U.ris` (45 R964) -/

/-- Bits 0, 2 and 3 are 0. -/
theorem absentBits_iff (r : BitVec 11) : r &&& 0b1101#11 = 0#11 ↔ ∀ j ∈ [0, 2, 3], r.getLsbD j = false := by
  have mask : ∀ j < 11, (0b1101#11).getLsbD j = decide (j ∈ [0, 2, 3]) := by decide
  constructor
  · intro h j hj
    have hbit := congrArg (fun x => BitVec.getLsbD x j) h
    have hlt : j < 11 := by fin_cases hj <;> decide
    simpa only [BitVec.getLsbD_and, mask j hlt, hj, decide_true, Bool.and_true, BitVec.getLsbD_zero] using hbit
  · intro h
    refine BitVec.eq_of_getLsbD_eq fun j hj => ?_
    rw [BitVec.getLsbD_and, mask j hj, BitVec.getLsbD_zero]
    by_cases hmem : j ∈ [0, 2, 3]
    · rw [h j hmem, Bool.false_and]
    · rw [decide_eq_false hmem, Bool.and_false]

theorem absentBits_putBit {r : BitVec 11} {i : Nat} (hi : i ∉ [0, 2, 3]) (b : Bool) (h : r &&& 0b1101#11 = 0#11) :
    putBit r i b &&& 0b1101#11 = 0#11 := by
  rw [absentBits_iff] at h ⊢
  intro j hj
  have hne : j ≠ i := ne_of_mem_of_not_mem hj hi
  rw [getLsbD_putBit, if_neg hne, h j hj]

theorem absentBits_putBit_if {r : BitVec 11} {i : Nat} {c : Prop} [Decidable c] (hi : i ∉ [0, 2, 3]) (b : Bool)
    (h : r &&& 0b1101#11 = 0#11) : (if c then putBit r i b else r) &&& 0b1101#11 = 0#11 := by
  split
  · exact absentBits_putBit hi b h
  · exact h

theorem absentBits_and {r : BitVec 11} (x : BitVec 11) (h : r &&& 0b1101#11 = 0#11) : (r &&& x) &&& 0b1101#11 = 0#11 := by
  rw [BitVec.and_assoc, BitVec.and_comm x, ← BitVec.and_assoc, h, BitVec.zero_and]

theorem absentBits_popRx {u : Uart} (e : RxEntry) (rest : List RxEntry) (h : u.ris &&& 0b1101#11 = 0#11) :
    (popRx u e rest).ris &&& 0b1101#11 = 0#11 :=
  absentBits_putBit_if (by decide) false (absentBits_putBit_if (by decide) false h)

theorem absentBits_rxPush {u : Uart} (e : RxEntry) (h : u.ris &&& 0b1101#11 = 0#11) :
    (rxPush u e).ris &&& 0b1101#11 = 0#11 := by
  rw [rxPush]
  split
  · exact absentBits_putBit (by decide) true h
  · exact absentBits_putBit_if (by decide) true (absentBits_putBit_if (by decide) true
      (absentBits_putBit_if (by decide) true (absentBits_putBit_if (by decide) true h)))

theorem absentBits_lcrhWrite {u : Uart} (l : BitVec 8) (h : u.ris &&& 0b1101#11 = 0#11) :
    (lcrhWrite u l).ris &&& 0b1101#11 = 0#11 := by
  by_cases hfen : l.getLsbD 4 = u.lcrh.getLsbD 4
  · obtain ⟨_, _, hris⟩ := lcrhWrite_of_sameFen hfen
    rwa [hris]
  · obtain ⟨_, _, hris⟩ := lcrhWrite_of_changedFen hfen
    rw [hris]
    exact absentBits_putBit (by decide) false (absentBits_putBit (by decide) false h)

/-! ### FIFOs under a write of LCRH (45 R912) -/

/-- The capacity follows FEN, and a change of FEN empties both FIFOs. -/
theorem lcrhWrite_lengths {u : Uart} (l : BitVec 8) (ht : u.txq.length ≤ u.cap) (hr : u.rxq.length ≤ u.cap) :
    (lcrhWrite u l).txq.length ≤ (lcrhWrite u l).cap ∧ (lcrhWrite u l).rxq.length ≤ (lcrhWrite u l).cap := by
  by_cases hfen : l.getLsbD 4 = u.lcrh.getLsbD 4
  · obtain ⟨htx, hrx, _⟩ := lcrhWrite_of_sameFen hfen
    obtain ⟨hlcrh, _⟩ := lcrhWrite_latches u l
    have hcap : (lcrhWrite u l).cap = u.cap := by rw [Uart.cap, Uart.cap, Uart.fifosOn, Uart.fifosOn, hlcrh, hfen]
    rw [htx, hrx, hcap]
    exact ⟨ht, hr⟩
  · obtain ⟨htx, hrx, _⟩ := lcrhWrite_of_changedFen hfen
    rw [htx, hrx]
    exact ⟨Nat.zero_le _, Nat.zero_le _⟩

/-! ### The invariant -/

theorem Invariant.registerEffect {s u : State} (h : Invariant s) (he : RegisterEffect s u) : Invariant u := by
  cases he with
  | none => exact h
  | soft x => exact h.setSoft x
  | timer x => exact h.setTimer x
  | store a v ha => exact h.putWord v ha
  | functionSelect k v => exact h.setGpio (by rw [fselWrite_pudT]; exact h.pudT) (by rw [fselWrite_clkT]; exact h.clkT)
  | outputs x => exact h.setGpio h.pudT h.clkT
  | pullControl mode hmode => exact h.setGpio (pudWrite_pudT s mode).le (by rw [pudWrite_clkT]; exact h.clkT)
  | pullClock b v =>
    refine h.setGpio (by rw [pudclkWrite_pudT]; exact h.pudT) fun p => ?_
    rw [Fin.getElem_fin, pudclkWrite_clkT s b v p p.isLt]
    split
    · exact le_rfl
    · exact h.clkT p
  | enables e1 e2 eb => exact h.setIntc h.fiq
  | fiqControl x hx => exact h.setIntc hx
  | popInbound w ws hq =>
    have hlen := h.inq
    rw [hq, List.length_cons] at hlen
    exact h.setMbox (by show ws.length ≤ _; omega) h.outq
  | pushOutbound w hroom =>
    refine h.setMbox h.inq ?_
    rw [List.length_append, List.length_singleton]
    exact Nat.lt_of_le_of_ne h.outq hroom
  | popReceived e rest hq =>
    have hlen := h.rxq
    rw [hq, List.length_cons] at hlen
    exact h.setUart h.txq (by show rest.length ≤ s.uart.cap; omega) (absentBits_popRx e rest h.ris)
  | pushTransmit b hroom =>
    refine h.setUart ?_ h.rxq h.ris
    rw [List.length_append, List.length_singleton]
    exact Nat.lt_of_le_of_ne h.txq hroom
  | divisor ok i f => exact h.setUart h.txq h.rxq h.ris
  | lineControl l =>
    obtain ⟨htx, hrx⟩ := lcrhWrite_lengths l h.txq h.rxq
    exact h.setUart htx hrx (absentBits_lcrhWrite l h.ris)
  | uartControl x hx => exact h.setUart h.txq h.rxq h.ris
  | triggerLevels x hx => exact h.setUart h.txq h.rxq h.ris
  | statusAndMask r m => exact h.setUart h.txq h.rxq h.ris
  | clearInterrupts x => exact h.setUart h.txq h.rxq (absentBits_and x h.ris)
  | installTable a hset ha => exact h.setCpu h.saved h.masked h.savedMask fun _ => ha
  | maskIrq m hm =>
    refine h.setCpu h.saved (fun hirq => ?_) h.savedMask h.vbar
    obtain hm | hfg := hm
    · exact hm
    · exact absurd (hfg.symm.trans hirq) (by decide)
  | returnFromIrq hctx => exact h.setCpu rfl (fun hirq => nomatch hirq) h.savedMask h.vbar

theorem Invariant.stepEnd {u t : State} (h : Invariant u) (he : StepEnd u t) : Invariant t := by
  cases he with
  | paid n => exact h.retire n
  | read d v => exact (h.retire 1).deliver d v
  | expanded ts => exact h.push ts
  | result r v => exact h.giveResult r v
  | paidResult r v => exact (h.retire 1).giveResult r v

theorem Invariant.exec {i : Instr} {s t : State} (h : Invariant s) (he : exec i s = .next t) : Invariant t := by
  obtain ⟨u, heffect, hend⟩ := exec_cases he
  exact (h.registerEffect heffect).stepEnd hend

theorem Invariant.cpuStep {s t : State} (h : Invariant s) (hs : cpuStep s = .next t) : Invariant t := by
  obtain ⟨_, rfl⟩ | ⟨tk, ts, _, hrun⟩ := cpuStep_cases hs
  · exact h.skip
  obtain ⟨i, rest, _, hexec⟩ | ⟨_, rfl⟩ | ⟨_, rfl⟩ | ⟨_, rfl⟩ | ⟨_, hfg, rfl⟩ := hrun
  · exact (h.setCont _).exec hexec
  · exact h.setCont ts
  · exact ((h.setCont ts).setSoft _).retire 1
  · exact ((h.setCont ts).setSoft _).retire 1
  · apply Invariant.retire
    exact (h.setCont ts).setCpu h.saved (fun hirq => absurd (hfg.symm.trans hirq) (by decide)) h.savedMask h.vbar

theorem Invariant.rxPush {s : State} {u : Uart} (h : Invariant (s.setUart u)) (e : RxEntry) :
    Invariant (s.setUart (rxPush u e)) := by
  refine h.setUart ?_ ?_ (absentBits_rxPush e h.ris)
  · rw [rxPush_eq]
    exact h.txq
  · rw [rxPush_eq]
    exact rxPush_length e h.rxq

theorem Invariant.uartTxStep {s : State} (h : Invariant s) (garbled : List Byte) : Invariant (uartTxStep garbled s) := by
  rw [Machine.uartTxStep]
  split
  · exact h
  · next b rest hq =>
    have hlen := h.txq
    rw [hq, List.length_cons] at hlen
    have popped : Invariant (s.setUart { s.uart with txq := rest }) :=
      h.setUart (by show rest.length ≤ s.uart.cap; omega) h.rxq h.ris
    split
    · simp only
      split
      · split
        · exact popped.rxPush _
        · exact popped
      · split
        · exact popped.setLine _
        · exact popped.setLine _
    · exact h

theorem Invariant.uartRxStep {s : State} (h : Invariant s) (good bad : Byte) (fe pe be : Bool) :
    Invariant (uartRxStep good bad fe pe be s) := by
  have received (e : RxEntry) : Invariant (s.setUart (Machine.rxPush s.uart e)) := Invariant.rxPush (s := s) h e
  rw [Machine.uartRxStep]
  split
  · split
    · exact received _
    · exact (received _).setLine _
  · exact h

theorem Invariant.agentEffect {s : State} (h : Invariant s) (a : Config.Turn) : Invariant (agentEffect a s) := by
  cases a with
  | cpu => exact h
  | irqEntry => exact h
  | timer => exact h.setTimer _
  | uartTx garbled => exact h.uartTxStep garbled
  | uartRx good bad fe pe be => exact h.uartRxStep good bad fe pe be
  | uartTimeout =>
    rw [Machine.agentEffect, uartTimeoutStep]
    split
    · exact h.setUart h.txq h.rxq (absentBits_putBit (by decide) true h.ris)
    · exact h
  | uartCts v => exact h.setUart h.txq h.rxq (absentBits_putBit (by decide) v h.ris)
  | uartTxBit v => exact h.setUart h.txq h.rxq (absentBits_putBit (by decide) v h.ris)
  | gpuTake =>
    rw [Machine.agentEffect, gpuTake]
    split
    · next hq =>
      have hlen := h.outq
      rw [hq, List.length_cons] at hlen
      exact h.setMbox h.inq (Nat.le_of_succ_le hlen)
    · exact h
  | gpuRespond words r =>
    rw [Machine.agentEffect, gpuRespond]
    split
    · split
      · next w _ hpush =>
        have hroom : s.mbox.inq.length < s.params.mboxDepth := of_decide_eq_true hpush
        refine (h.gpuWrites (bufferOf w) words).setMbox ?_ ?_
        · rw [gpuWrites_params, List.length_append, List.length_singleton]
          exact hroom
        · rw [gpuWrites_params]
          exact h.outq
      · exact h
    · exact h
  | gpuSpurious r =>
    rw [Machine.agentEffect, gpuSpurious]
    split
    · next hpush =>
      have hroom : s.mbox.inq.length < s.params.mboxDepth := of_decide_eq_true hpush.1
      refine h.setMbox ?_ h.outq
      rw [List.length_append, List.length_singleton]
      exact hroom
    · exact h
  | gpuCompare two v => exact h.setTimer _
  | gpuClearMatch two => exact h.setTimer _

theorem not_irqMask_of_irqEnabled {s : State} (h : irqEnabled s = true) : s.cpu.irqMask = false := by
  simp only [irqEnabled, Bool.and_eq_true, Bool.not_eq_true'] at h
  obtain ⟨⟨⟨_, hmask⟩, _⟩, _⟩ := h
  exact hmask

/-- Settles O7: the cases of a step, each by the lemma of what moves in it. -/
theorem everyStepKeepsTheInvariant : Obligations.EveryStepKeepsTheInvariant := by
  intro s t h hstep
  obtain ⟨_, rfl⟩ | ⟨_, _, hcpu⟩ | ⟨_, _, _, hcpu⟩ | ⟨_, _, _, hen, _, rfl⟩ | ⟨_, _, _, _, rfl⟩ | ⟨_, _, _, _, rfl⟩ :=
    step_cases hstep
  · exact h
  · exact h.cpuStep hcpu
  · exact (h.setSched _).cpuStep hcpu
  · apply Invariant.retire
    exact (h.setSched _).setCpu rfl (fun _ => rfl) (not_irqMask_of_irqEnabled hen) h.vbar
  · exact (h.setSched _).skip
  · exact ((h.setSched _).agentEffect _).skip

/-! ### The legal fields -/

/-- Only the three registers matter. -/
theorem LegalFields.of_eq {s t : State} (h : LegalFields s) (hpud : t.gpio.pud = s.gpio.pud) (hcr : t.uart.cr = s.uart.cr)
    (hifls : t.uart.ifls = s.uart.ifls) : LegalFields t :=
  ⟨hpud ▸ h.pud, hcr ▸ h.cr, hifls ▸ h.iflsTx, hifls ▸ h.iflsRx⟩

/-- R917 stores no refused bit. -/
theorem crWrite_legal {x : Word} (h : (x.getLsbD 1 || x.getLsbD 2 || x.getLsbD 14 || x.getLsbD 15) = false) :
    (x.setWidth 16 &&& 0xFF87#16) &&& 0xC006#16 = 0#16 := by
  simp only [Bool.or_eq_false_iff] at h
  obtain ⟨⟨⟨h1, h2⟩, h14⟩, h15⟩ := h
  have mask : ∀ j < 16, (0xC006#16).getLsbD j = true → j = 1 ∨ j = 2 ∨ j = 14 ∨ j = 15 := by decide
  refine BitVec.eq_of_getLsbD_eq fun j hj => ?_
  rw [BitVec.getLsbD_and, BitVec.getLsbD_and, BitVec.getLsbD_setWidth, BitVec.getLsbD_zero]
  by_cases hbit : (0xC006#16).getLsbD j = true
  · have hzero : x.getLsbD j = false := by
      obtain rfl | rfl | rfl | rfl := mask j hj hbit <;> assumption
    rw [hzero, Bool.and_false, Bool.false_and, Bool.false_and]
  · rw [Bool.eq_false_iff.2 hbit, Bool.and_false]

theorem extractLsb'_of_lowField (x : Word) {lo : Nat} (hlo : lo + 3 ≤ 6) :
    (x.extractLsb' 0 6).extractLsb' lo 3 = x.extractLsb' lo 3 := by
  refine BitVec.eq_of_getLsbD_eq fun j hj => ?_
  have hin : lo + j < 6 := by omega
  simp only [BitVec.getLsbD_extractLsb', hin, decide_true, Bool.true_and, Nat.zero_add]

theorem LegalFields.registerEffect {s u : State} (h : LegalFields s) (he : RegisterEffect s u) : LegalFields u := by
  cases he with
  | pullControl mode hmode => exact ⟨by rw [State.setGpio_gpio, pudWrite_pud]; exact hmode, h.cr, h.iflsTx, h.iflsRx⟩
  | uartControl x hx => exact ⟨h.pud, crWrite_legal hx, h.iflsTx, h.iflsRx⟩
  | triggerLevels x hx =>
    obtain ⟨htx, hrx⟩ := not_or.1 hx
    refine ⟨h.pud, h.cr, ?_, ?_⟩
    · rw [State.setUart_uart, extractLsb'_of_lowField x (by decide)]
      exact Nat.le_of_not_lt htx
    · rw [State.setUart_uart, extractLsb'_of_lowField x (by decide)]
      exact Nat.le_of_not_lt hrx
  | functionSelect k v => exact h.of_eq (fselWrite_pud s.gpio k v) rfl rfl
  | pullClock b v => exact h.of_eq (pudclkWrite_pud s b v) rfl rfl
  | lineControl l =>
    obtain ⟨_, _, _, _, _, hcr, hifls, _⟩ := lcrhWrite_latches s.uart l
    exact h.of_eq rfl hcr hifls
  | store a v ha => exact h.of_eq (by rw [State.putWord_gpio]) (by rw [State.putWord_uart]) (by rw [State.putWord_uart])
  | none | soft | timer | outputs | enables | fiqControl | popInbound | pushOutbound | popReceived | pushTransmit | divisor
  | statusAndMask | clearInterrupts | installTable | maskIrq | returnFromIrq => exact h.of_eq rfl rfl rfl

theorem LegalFields.deliver {s : State} (h : LegalFields s) (d : Dest) (v : Word) : LegalFields (deliver d v s) := by
  obtain ⟨_, hgpio, _, _, _, huart, _⟩ := deliver_frame d v s
  exact h.of_eq (by rw [hgpio]) (by rw [huart]) (by rw [huart])

theorem LegalFields.giveResult {s : State} (h : LegalFields s) (r : Ret) (v : Value) : LegalFields (giveResult r v s) := by
  rw [giveResult_eq]
  exact h.of_eq rfl rfl rfl

theorem LegalFields.stepEnd {u t : State} (h : LegalFields u) (he : StepEnd u t) : LegalFields t := by
  have retired : LegalFields (u.retire 1) := h.of_eq rfl rfl rfl
  cases he with
  | paid n => exact h.of_eq rfl rfl rfl
  | read d v => exact retired.deliver d v
  | expanded ts => exact h.of_eq rfl rfl rfl
  | result r v => exact h.giveResult r v
  | paidResult r v => exact retired.giveResult r v

theorem LegalFields.cpuStep {s t : State} (h : LegalFields s) (hs : cpuStep s = .next t) : LegalFields t := by
  obtain ⟨_, rfl⟩ | ⟨tk, ts, _, hrun⟩ := cpuStep_cases hs
  · exact h.of_eq rfl rfl rfl
  obtain ⟨i, rest, _, hexec⟩ | ⟨_, rfl⟩ | ⟨_, rfl⟩ | ⟨_, rfl⟩ | ⟨_, _, rfl⟩ := hrun
  · obtain ⟨u, heffect, hend⟩ := exec_cases hexec
    have start : LegalFields (s.setCont (rest ++ ts)) := h.of_eq rfl rfl rfl
    exact (start.registerEffect heffect).stepEnd hend
  · exact h.of_eq rfl rfl rfl
  · exact h.of_eq rfl rfl rfl
  · exact h.of_eq rfl rfl rfl
  · exact h.of_eq rfl rfl rfl

/-- The registers that software alone writes: no agent changes the UART's controls. -/
theorem agentEffect_uartControls (a : Config.Turn) (s : State) :
    (agentEffect a s).uart.cr = s.uart.cr ∧ (agentEffect a s).uart.ifls = s.uart.ifls := by
  cases a with
  | uartTx g =>
    simp only [agentEffect, uartTxStep]
    split
    · exact ⟨rfl, rfl⟩
    · split
      · split
        · split
          · rw [rxPush_eq]
            exact ⟨rfl, rfl⟩
          · exact ⟨rfl, rfl⟩
        · split <;> exact ⟨rfl, rfl⟩
      · exact ⟨rfl, rfl⟩
  | uartRx good bad fe pe be =>
    simp only [agentEffect, uartRxStep]
    split
    · split
      · rw [rxPush_eq]
        exact ⟨rfl, rfl⟩
      · rw [rxPush_eq]
        exact ⟨rfl, rfl⟩
    · exact ⟨rfl, rfl⟩
  | uartTimeout => simp only [agentEffect, uartTimeoutStep]; split <;> exact ⟨rfl, rfl⟩
  | gpuTake => simp only [agentEffect, gpuTake]; split <;> exact ⟨rfl, rfl⟩
  | gpuRespond words r =>
    simp only [agentEffect, gpuRespond]
    split
    · split
      · rw [gpuWrites_eq]
        exact ⟨rfl, rfl⟩
      · exact ⟨rfl, rfl⟩
    · exact ⟨rfl, rfl⟩
  | gpuSpurious r => simp only [agentEffect, gpuSpurious]; split <;> exact ⟨rfl, rfl⟩
  | cpu | irqEntry | timer | uartCts | uartTxBit | gpuCompare | gpuClearMatch => exact ⟨rfl, rfl⟩

/-- Settles O9: the writes that could bring in a refused value are those that refuse it; every other case leaves the registers. -/
theorem refusedValuesAreNeverHeld : Obligations.RefusedValuesAreNeverHeld := by
  refine ⟨⟨by decide, by decide, by decide, by decide⟩, fun s t h hstep => ?_⟩
  have given : LegalFields s.giveTurn := h.of_eq rfl rfl rfl
  obtain ⟨_, rfl⟩ | ⟨_, _, hcpu⟩ | ⟨_, _, _, hcpu⟩ | ⟨_, _, _, _, _, rfl⟩ | ⟨_, _, _, _, rfl⟩ | ⟨_, _, _, _, rfl⟩ :=
    step_cases hstep
  · exact h
  · exact h.cpuStep hcpu
  · exact given.cpuStep hcpu
  · exact h.of_eq rfl rfl rfl
  · exact h.of_eq rfl rfl rfl
  · obtain ⟨_, _, _, hgpio, _⟩ := agentEffect_frame s.nextTurn s.giveTurn
    obtain ⟨hcr, hifls⟩ := agentEffect_uartControls s.nextTurn s.giveTurn
    exact given.of_eq (by rw [State.skip_gpio, hgpio]) hcr hifls

end Sys2Proof.Machine
end

section
/-! PROOFS. The step (40_registerio R400, 60_exceptions R1020, R1030, 70_reset_and_hazards R1130): which step the machine takes, and
what a step of the CPU's program can do to the contexts, the counters and the cycle count. -/

namespace Sys2Proof.Machine

open Sys2Proof

/-! ### Which step is taken -/

theorem step_of_finished {s : State} (hbuf : s.params.mboxBuf.toNat % 16 = 0) (h : s.finished = true) : step s = .next s := by
  rw [step, machineStep, if_neg (not_not_intro hbuf), if_pos h]

theorem step_of_silent {s : State} (hbuf : s.params.mboxBuf.toNat % 16 = 0) (hfin : s.finished = false)
    (h : silentHead s = true) : step s = cpuStep s := by
  rw [step, machineStep, if_neg (not_not_intro hbuf), hfin, if_neg Bool.false_ne_true, if_pos h]

theorem step_of_turn {s : State} {a : Config.Turn} {q : List Config.Turn} (hbuf : s.params.mboxBuf.toNat % 16 = 0)
    (hfin : s.finished = false) (hsilent : silentHead s = false) (h : s.sched = a :: q) :
    step s = runTurn a (s.setSched q) := by
  rw [step, machineStep, if_neg (not_not_intro hbuf), hfin, if_neg Bool.false_ne_true, hsilent, if_neg Bool.false_ne_true,
    State.nextTurn, State.giveTurn, h]
  rfl

/-- Settles O6: a foreground with nothing but ended text is finished. -/
theorem finalStateStays : Obligations.FinalStateStays := by
  intro s hbuf hfg hcont
  refine step_of_finished hbuf ?_
  rw [State.finished, hfg, decide_eq_true rfl, Bool.true_and, List.all_eq_true]
  intro t ht
  obtain ⟨env, rfl⟩ := hcont t ht
  rfl

theorem not_finished_of_cons {s : State} {t : Task} {ts : List Task} (h : s.cpu.cont = t :: ts) (ht : t.ended = false) :
    s.finished = false := by
  rw [State.finished, h, List.all_cons, ht, Bool.false_and, Bool.and_false]

/-- A task that starts with an instruction has not ended, and is silent just when the instruction expands. -/
theorem Task.fetch_some {t : Task} {i : Instr} {rest : List Task} (h : t.fetch = some (i, rest)) :
    t.ended = false ∧ t.silent = i.expands := by
  have hended : t.ended = false := by
    cases t with
    | code ws env =>
      cases ws with
      | nil => cases h
      | cons w ws => rfl
    | op | tickStep | uartInitStep | cpsieArm => rfl
  exact ⟨hended, by rw [Task.silent, hended, h, Bool.false_or]⟩

theorem runTask_of_fetch {t : Task} {i : Instr} {rest : List Task} (h : t.fetch = some (i, rest)) (ts : List Task) (s : State) :
    runTask t ts s = exec i (s.setCont (rest ++ ts)) := by
  cases t with
  | op j => cases h; rfl
  | code ws env =>
    cases ws with
    | nil => cases h
    | cons w ws =>
      simp only [Task.fetch] at h
      split at h <;> cases h
      next hd =>
      simp only [runTask, hd]
      rfl
  | tickStep | uartInitStep | cpsieArm => cases h

/-- The instruction at the head runs: at once if it expands, else at the CPU's turn. -/
theorem step_of_fetch {s : State} {t : Task} {ts rest : List Task} {i : Instr} (hbuf : s.params.mboxBuf.toNat % 16 = 0)
    (hcont : s.cpu.cont = t :: ts) (hfetch : t.fetch = some (i, rest)) :
    (i.expands = true → step s = exec i (s.setCont (rest ++ ts))) ∧
    ∀ q, i.expands = false → s.sched = .cpu :: q → step s = exec i ((s.setSched q).setCont (rest ++ ts)) := by
  obtain ⟨hended, hsilent⟩ := Task.fetch_some hfetch
  have hfin := not_finished_of_cons hcont hended
  have head : silentHead s = i.expands := by
    rw [silentHead, hcont]
    exact hsilent
  have run (u : State) (hu : u.cpu.cont = t :: ts) : cpuStep u = exec i (u.setCont (rest ++ ts)) := by
    rw [cpuStep, hu]
    exact runTask_of_fetch hfetch ts u
  refine ⟨fun hexp => ?_, fun q hexp hsched => ?_⟩
  · rw [step_of_silent hbuf hfin (head.trans hexp), run s hcont]
  · rw [step_of_turn hbuf hfin (head.trans hexp) hsched]
    exact run (s.setSched q) hcont

/-- Settles O5: text and an expansion's task both start with the instruction, which is `step_of_fetch`. -/
theorem stepRunsTheDecodedInstruction : Obligations.StepRunsTheDecodedInstruction := by
  intro s ts q i hbuf
  refine ⟨fun ws rest env hcont hdecode => ?_, fun hcont => ?_⟩
  · have hfetch : (Task.code ws env).fetch = some (i, [.code rest env]) := by simp only [Task.fetch, hdecode]
    obtain ⟨hfree, hpaid⟩ := step_of_fetch hbuf hcont hfetch
    exact ⟨hfree, hpaid q⟩
  · obtain ⟨hfree, hpaid⟩ := step_of_fetch hbuf hcont rfl
    exact ⟨hfree, hpaid q⟩

/-- Settles O26: the timer's turn is `timerTick`, another agent's turn its effect. -/
theorem timerTurnCountsAndMatches : Obligations.TimerTurnCountsAndMatches := by
  refine fun s q hbuf hfin hsilent => ⟨fun hsched => ?_, fun a hcpu hirq hsched => ?_⟩
  · exact ⟨(timerTick s.timer).m, step_of_turn hbuf hfin hsilent hsched, getLsbD_timerTick_m s.timer⟩
  · rw [step_of_turn hbuf hfin hsilent hsched]
    cases a with
    | cpu => exact absurd rfl hcpu
    | irqEntry => exact absurd rfl hirq
    | timer | uartTx | uartRx | uartTimeout | uartCts | uartTxBit | gpuTake | gpuRespond | gpuSpurious | gpuCompare
    | gpuClearMatch => rfl

/-! ### IRQ entry (R1020) -/

theorem irqEnabled_iff (s : State) : irqEnabled s = true ↔
    s.cpu.ctx = .fg ∧ s.cpu.irqMask = false ∧ irqLine s = true ∧ s.cpu.cont.all Task.ended = false := by
  simp only [irqEnabled, Bool.and_eq_true, decide_eq_true_eq, Bool.not_eq_true', and_assoc]

/-- In a run that goes on, a foreground with a task has something left to run. -/
theorem irqEnabled_iff_of_running {s : State} (hfin : s.finished = false) : irqEnabled s = true ↔
    s.cpu.ctx = .fg ∧ s.cpu.irqMask = false ∧ irqLine s = true ∧ s.cpu.cont ≠ [] := by
  rw [irqEnabled_iff]
  refine and_congr_right fun hfg => and_congr_right' (and_congr_right' ?_)
  rw [State.finished, hfg, decide_eq_true rfl, Bool.true_and] at hfin
  refine ⟨fun _ hnil => ?_, fun _ => hfin⟩
  rw [hnil] at hfin
  cases hfin

/-- Settles O37: whether IRQ entry is enabled, and then whether a table is installed. -/
theorem irqEntrySavesTheForeground : Obligations.IrqEntrySavesTheForeground := by
  intro s q hbuf hfin hsilent hsched enabled
  have entry : step s = irqEntryStep (s.setSched q) := step_of_turn hbuf hfin hsilent hsched
  have henabled : irqEnabled (s.setSched q) = true ↔ enabled := irqEnabled_iff_of_running hfin
  refine ⟨fun hen hset => ?_, fun hen hset => ?_, fun hdis => ?_⟩
  · have hon := henabled.2 hen
    obtain ⟨_, hmask, _, _⟩ := hen
    rw [entry, irqEntryStep, if_pos hon, takeException, State.setSched_cpu, if_pos hset, hmask]
    rfl
  · rw [entry, irqEntryStep, if_pos (henabled.2 hen), takeException, State.setSched_cpu, hset]
    rfl
  · rw [entry, irqEntryStep, if_neg (mt henabled.1 hdis)]

/-! ### What is fixed once (R20, R1010, R861) -/

theorem FixedOnce.of_eq {s t : State} (hparams : t.params = s.params) (hset : t.cpu.vbarSet = s.cpu.vbarSet)
    (hvbar : t.cpu.vbar = s.cpu.vbar) (hphase : t.cpu.icPhase = s.cpu.icPhase) : FixedOnce s t :=
  ⟨hparams, fun h => ⟨hset.trans h, hvbar⟩, hphase.trans⟩

theorem cpuStep_fixedOnce {s t : State} (h : cpuStep s = .next t) : FixedOnce s t := by
  obtain ⟨_, rfl⟩ | ⟨tk, ts, _, hrun⟩ := cpuStep_cases h
  · exact .of_eq rfl rfl rfl rfl
  obtain ⟨i, rest, _, hexec⟩ | ⟨_, rfl⟩ | ⟨_, rfl⟩ | ⟨_, rfl⟩ | ⟨_, _, rfl⟩ := hrun
  · have moved := exec_moved hexec
    exact ⟨moved.params, moved.vbar, moved.icPhase.trans⟩
  · exact .of_eq rfl rfl rfl rfl
  · exact .of_eq rfl rfl rfl rfl
  · exact .of_eq rfl rfl rfl rfl
  · exact ⟨rfl, fun hset => ⟨hset, rfl⟩, fun _ => rfl⟩

/-- Settles O10: only the CPU's program writes what is fixed, and it is fixed under `exec_moved`. -/
theorem installedTableAndArmedPhaseStay : Obligations.InstalledTableAndArmedPhaseStay := by
  intro s t hstep
  obtain ⟨_, rfl⟩ | ⟨_, _, hcpu⟩ | ⟨_, _, _, hcpu⟩ | ⟨_, _, _, _, _, rfl⟩ | ⟨_, _, _, _, rfl⟩ | ⟨_, _, _, _, rfl⟩ :=
    step_cases hstep
  · exact .of_eq rfl rfl rfl rfl
  · exact cpuStep_fixedOnce hcpu
  · exact cpuStep_fixedOnce (s := s.giveTurn) hcpu
  · exact .of_eq rfl rfl rfl rfl
  · exact .of_eq rfl rfl rfl rfl
  · obtain ⟨hparams, hcpu, _⟩ := agentEffect_frame s.nextTurn s.giveTurn
    rw [← State.skip_params] at hparams
    rw [← State.skip_cpu] at hcpu
    exact .of_eq hparams (by rw [hcpu]; rfl) (by rw [hcpu]; rfl) (by rw [hcpu]; rfl)

/-! ### The contexts (R1020, R1021, R1030) -/

/-- What every step but IRQ entry and `IRET` keeps. -/
def SameContext (s t : State) : Prop :=
  t.cpu.ctx = s.cpu.ctx ∧ t.cpu.saved = s.cpu.saved ∧ t.cpu.savedMask = s.cpu.savedMask ∧
    (s.cpu.ctx = .irq → s.cpu.irqMask = true → t.cpu.irqMask = true)

theorem SameContext.of_cpu {s t : State} (h : t.cpu = s.cpu) : SameContext s t := by
  rw [SameContext, h]
  exact ⟨rfl, rfl, rfl, fun _ hmask => hmask⟩

/-- A step of the CPU's program is `IRET`, or stays in its context. -/
theorem cpuStep_context {s t : State} (h : cpuStep s = .next t) : SameContext s t ∨
    (∃ tk ts rest, s.cpu.cont = tk :: ts ∧ Task.fetch tk = some (.iret, rest)) ∧ s.cpu.ctx = .irq ∧ t.cpu.ctx = .fg ∧
      t.cpu.cont = s.cpu.saved.getD [] ∧ t.cpu.saved = none ∧ t.cpu.irqMask = s.cpu.savedMask := by
  obtain ⟨_, rfl⟩ | ⟨tk, ts, hcont, hrun⟩ := cpuStep_cases h
  · exact .inl (.of_cpu rfl)
  obtain ⟨i, rest, hfetch, hexec⟩ | ⟨_, rfl⟩ | ⟨_, rfl⟩ | ⟨_, rfl⟩ | ⟨_, hfg, rfl⟩ := hrun
  · by_cases hi : i = .iret
    · subst hi
      obtain ⟨hirq, rfl⟩ := returnException_spec hexec
      exact .inr ⟨⟨tk, ts, rest, hcont, hfetch⟩, hirq, rfl, rfl, rfl, rfl⟩
    · exact .inl ((exec_moved hexec).context hi)
  · exact .inl ⟨rfl, rfl, rfl, fun _ hmask => hmask⟩
  · exact .inl ⟨rfl, rfl, rfl, fun _ hmask => hmask⟩
  · exact .inl ⟨rfl, rfl, rfl, fun _ hmask => hmask⟩
  · exact .inl ⟨rfl, rfl, rfl, fun hirq => absurd (hfg.symm.trans hirq) (by decide)⟩

/-- A step stays in its context, or is `IRET`, or is IRQ entry. -/
theorem step_context {s t : State} (h : step s = .next t) : SameContext s t ∨
    ((∃ tk ts rest, s.cpu.cont = tk :: ts ∧ Task.fetch tk = some (.iret, rest)) ∧ s.cpu.ctx = .irq ∧ t.cpu.ctx = .fg ∧
      t.cpu.cont = s.cpu.saved.getD [] ∧ t.cpu.saved = none ∧ t.cpu.irqMask = s.cpu.savedMask) ∨
    (s.nextTurn = .irqEntry ∧ irqEnabled s = true ∧ s.cpu.vbarSet = true ∧ t.cpu = { s.cpu with
      saved := some s.cpu.cont, savedMask := s.cpu.irqMask, irqMask := true, ctx := .irq, cont := irqVector }) := by
  obtain ⟨_, rfl⟩ | ⟨_, _, hcpu⟩ | ⟨_, _, _, hcpu⟩ | ⟨_, _, hturn, hen, hset, rfl⟩ | ⟨_, _, _, _, rfl⟩ | ⟨_, _, _, _, rfl⟩ :=
    step_cases h
  · exact .inl (.of_cpu rfl)
  · exact (cpuStep_context hcpu).imp id .inl
  · exact (cpuStep_context (s := s.giveTurn) hcpu).imp id .inl
  · exact .inr (.inr ⟨hturn, hen, hset, rfl⟩)
  · exact .inl (.of_cpu rfl)
  · obtain ⟨_, hcpu, _⟩ := agentEffect_frame s.nextTurn s.giveTurn
    exact .inl (.of_cpu hcpu)

/-- Settles O11: each of the three kinds of step in `step_context` changes the context in its own way. -/
theorem contextsChangeOnlyByEntryAndReturn : Obligations.ContextsChangeOnlyByEntryAndReturn := by
  intro s t hstep
  obtain ⟨hctx, hsaved, hsavedMask, hmask⟩ | ⟨hiret, hirq, hfg, hcont, hnone, hmask⟩ | ⟨hturn, hen, hset, hcpu⟩ :=
    step_context hstep
  · refine ⟨fun hs ht => ?_, fun hs ht => ?_, fun hs _ => ⟨hsaved, hsavedMask, hmask hs⟩⟩
    · rw [hctx, hs] at ht
      cases ht
    · rw [hctx, hs] at ht
      cases ht
  · refine ⟨fun hs _ => ?_, fun _ _ => ⟨hiret, fun c hc => ?_, hnone, hmask⟩, fun _ ht => ?_⟩
    · rw [hirq] at hs
      cases hs
    · rw [hcont, hc, Option.getD_some]
    · rw [hfg] at ht
      cases ht
  · obtain ⟨hsfg, _⟩ := (irqEnabled_iff s).1 hen
    rw [hcpu]
    refine ⟨fun _ _ => ⟨hturn, hen, hset, rfl, rfl, rfl, rfl⟩, fun _ ht => (nomatch ht), fun hs _ => ?_⟩
    rw [hsfg] at hs
    cases hs

/-! ### Counters and observables (R700, R710, R735, R960, R961, R104) -/

theorem cpuStep_line {s t : State} (h : cpuStep s = .next t) : t.line = s.line ∧ t.timer.cnt = s.timer.cnt := by
  obtain ⟨_, rfl⟩ | ⟨tk, ts, _, hrun⟩ := cpuStep_cases h
  · exact ⟨rfl, rfl⟩
  obtain ⟨i, rest, _, hexec⟩ | ⟨_, rfl⟩ | ⟨_, rfl⟩ | ⟨_, rfl⟩ | ⟨_, _, rfl⟩ := hrun
  · have moved := exec_moved hexec
    exact ⟨moved.line, moved.cnt⟩
  · exact ⟨rfl, rfl⟩
  · exact ⟨rfl, rfl⟩
  · exact ⟨rfl, rfl⟩
  · exact ⟨rfl, rfl⟩

theorem cpuStep_tick {s t : State} (h : cpuStep s = .next t) : t.soft.tick = s.soft.tick ∨
    (∃ ts, s.cpu.cont = .tickStep :: ts) ∧ t.soft.tick = s.soft.tick + 1#32 := by
  obtain ⟨_, rfl⟩ | ⟨tk, ts, hcont, hrun⟩ := cpuStep_cases h
  · exact .inl rfl
  obtain ⟨i, rest, _, hexec⟩ | ⟨_, rfl⟩ | ⟨rfl, rfl⟩ | ⟨_, rfl⟩ | ⟨_, _, rfl⟩ := hrun
  · exact .inl (exec_moved hexec).tick
  · exact .inl rfl
  · exact .inr ⟨⟨ts, hcont⟩, rfl⟩
  · exact .inl rfl
  · exact .inl rfl

/-- What has no cost leaves the cycle count. -/
theorem cpuStep_free {s t : State} (hsilent : silentHead s = true) (h : cpuStep s = .next t) : t.cyc = s.cyc := by
  obtain ⟨_, rfl⟩ | ⟨tk, ts, hcont, hrun⟩ := cpuStep_cases h
  · rfl
  rw [silentHead, hcont] at hsilent
  obtain ⟨i, rest, hfetch, hexec⟩ | ⟨_, rfl⟩ | ⟨rfl, _⟩ | ⟨rfl, _⟩ | ⟨rfl, _⟩ := hrun
  · obtain ⟨_, hexp⟩ := Task.fetch_some hfetch
    exact exec_free (s := s.setCont (rest ++ ts)) (hexp.symm.trans hsilent) hexec
  · rfl
  · cases hsilent
  · cases hsilent
  · cases hsilent

/-- R104: every other step of the program costs at least one cycle. -/
theorem cpuStep_paid {s t : State} (hsilent : silentHead s = false) (hne : s.cpu.cont ≠ []) (h : cpuStep s = .next t) :
    s.cyc < t.cyc := by
  obtain ⟨hnil, _⟩ | ⟨tk, ts, hcont, hrun⟩ := cpuStep_cases h
  · exact absurd hnil hne
  rw [silentHead, hcont] at hsilent
  obtain ⟨i, rest, hfetch, hexec⟩ | ⟨⟨env, rfl⟩, _⟩ | ⟨_, rfl⟩ | ⟨_, rfl⟩ | ⟨_, _, rfl⟩ := hrun
  · obtain ⟨_, hexp⟩ := Task.fetch_some hfetch
    exact exec_paid (s := s.setCont (rest ++ ts)) (hexp.symm.trans hsilent) hexec
  · cases hsilent
  · exact retire_cyc_lt 1 _
  · exact retire_cyc_lt 1 _
  · exact retire_cyc_lt 1 _

/-- The CPU takes a step at its turn: the program's, or IRQ entry. -/
def CpuMoves (s : State) : Prop :=
  s.finished = false ∧ silentHead s = false ∧
    (s.nextTurn = .cpu ∧ s.cpu.cont ≠ [] ∨ s.nextTurn = .irqEntry ∧ irqEnabled s = true)

theorem step_cyc {s t : State} (h : step s = .next t) : (CpuMoves s → s.cyc < t.cyc) ∧ (¬ CpuMoves s → t.cyc = s.cyc) := by
  obtain ⟨hfin, rfl⟩ | ⟨_, hsilent, hcpu⟩ | ⟨hfin, hsilent, hturn, hcpu⟩ | ⟨hfin, hsilent, hturn, hen, _, rfl⟩ |
    ⟨_, _, hturn, hdis, rfl⟩ | ⟨_, _, hncpu, hnirq, rfl⟩ := step_cases h
  · exact ⟨fun ⟨hrun, _⟩ => absurd (hfin.symm.trans hrun) (by decide), fun _ => rfl⟩
  · exact ⟨fun ⟨_, hpaid, _⟩ => absurd (hsilent.symm.trans hpaid) (by decide), fun _ => cpuStep_free hsilent hcpu⟩
  · refine ⟨fun ⟨_, _, hwho⟩ => ?_, fun hidle => ?_⟩
    · obtain ⟨_, hne⟩ | ⟨hirq, _⟩ := hwho
      · exact cpuStep_paid (s := s.giveTurn) hsilent hne hcpu
      · exact nomatch hturn.symm.trans hirq
    · have hnil : s.cpu.cont = [] := by
        by_contra hne
        exact hidle ⟨hfin, hsilent, .inl ⟨hturn, hne⟩⟩
      obtain ⟨_, rfl⟩ | ⟨tk, ts, hcont, _⟩ := cpuStep_cases hcpu
      · rfl
      · exact nomatch hnil.symm.trans hcont
  · exact ⟨fun _ => retire_cyc_lt 1 _, fun hidle => absurd ⟨hfin, hsilent, .inr ⟨hturn, hen⟩⟩ hidle⟩
  · refine ⟨fun ⟨_, _, hwho⟩ => ?_, fun _ => rfl⟩
    obtain ⟨hcpu, _⟩ | ⟨_, hen⟩ := hwho
    · exact nomatch hturn.symm.trans hcpu
    · exact absurd (hdis.symm.trans hen) (by decide)
  · refine ⟨fun ⟨_, _, hwho⟩ => ?_, fun _ => ?_⟩
    · obtain ⟨hcpu, _⟩ | ⟨hirq, _⟩ := hwho
      · exact absurd hcpu hncpu
      · exact absurd hirq hnirq
    · obtain ⟨_, _, _, _, _, hcyc, _⟩ := agentEffect_frame s.nextTurn s.giveTurn
      exact hcyc

/-- Outside the agents' turns neither the counter nor the line moves; at them the agent's effect moves both. -/
theorem step_line {s t : State} (h : step s = .next t) : (t.line = s.line ∧ t.timer.cnt = s.timer.cnt) ∨
    t = (agentEffect s.nextTurn s.giveTurn).skip := by
  obtain ⟨_, rfl⟩ | ⟨_, _, hcpu⟩ | ⟨_, _, _, hcpu⟩ | ⟨_, _, _, _, _, rfl⟩ | ⟨_, _, _, _, rfl⟩ | ⟨_, _, _, _, ht⟩ :=
    step_cases h
  · exact .inl ⟨rfl, rfl⟩
  · exact .inl (cpuStep_line hcpu)
  · exact .inl (cpuStep_line (s := s.giveTurn) hcpu)
  · exact .inl ⟨rfl, rfl⟩
  · exact .inl ⟨rfl, rfl⟩
  · exact .inr ht

theorem step_tick {s t : State} (h : step s = .next t) : t.soft.tick = s.soft.tick ∨
    (∃ ts, s.cpu.cont = .tickStep :: ts) ∧ t.soft.tick = s.soft.tick + 1#32 := by
  obtain ⟨_, rfl⟩ | ⟨_, _, hcpu⟩ | ⟨_, _, _, hcpu⟩ | ⟨_, _, _, _, _, rfl⟩ | ⟨_, _, _, _, rfl⟩ | ⟨_, _, _, _, rfl⟩ :=
    step_cases h
  · exact .inl rfl
  · exact cpuStep_tick hcpu
  · exact cpuStep_tick (s := s.giveTurn) hcpu
  · exact .inl rfl
  · exact .inl rfl
  · obtain ⟨_, _, hsoft, _⟩ := agentEffect_frame s.nextTurn s.giveTurn
    exact .inl (congrArg Soft.tick hsoft)

/-- Settles O12: the tick is `step_tick`, the cycle count `step_cyc`; the counter and the line are the agents'. -/
theorem countersAndObservablesOnlyGrow : Obligations.CountersAndObservablesOnlyGrow := by
  intro s t hstep
  have counter : t.timer.cnt = s.timer.cnt ∨ (s.nextTurn = .timer ∧ t.timer.cnt = s.timer.cnt + 1#64) := by
    obtain ⟨_, hcnt⟩ | rfl := step_line hstep
    · exact .inl hcnt
    · exact agentEffect_cnt s.nextTurn s.giveTurn
  refine ⟨counter, step_tick hstep, ?_⟩
  intro on sends receives cpuMoves
  suffices line : _ ∧ _ from ⟨line.1, line.2, step_cyc hstep⟩
  obtain ⟨hline, _⟩ | rfl := step_line hstep
  · rw [hline]
    exact ⟨.inl rfl, .inl rfl⟩
  obtain hline | ⟨g, b, rest, hturn, hq, hen, htx, hloop, hline⟩ | ⟨good, bad, fe, pe, be, hturn, hen, hrx, hloop, hbad, hline⟩ :=
    agentEffect_line s.nextTurn s.giveTurn
  · rw [State.skip_line, hline]
    exact ⟨.inl rfl, .inl rfl⟩
  · have hsend : sends g := ⟨hturn, hq ▸ List.cons_ne_nil b rest, hen, htx, hloop⟩
    rw [State.skip_line, hline]
    by_cases hok : lineOkTx s = true
    · rw [if_pos (show lineOkTx s.giveTurn = true from hok)]
      exact ⟨.inr ⟨g, b, rest, hsend, hq, by rw [if_pos hok]; rfl⟩, .inl rfl⟩
    · rw [if_neg (show ¬ lineOkTx s.giveTurn = true from hok)]
      exact ⟨.inr ⟨g, b, rest, hsend, hq, by rw [if_neg hok]; rfl⟩, .inr ⟨rfl, .inl ⟨g, hsend, Bool.eq_false_iff.2 hok⟩⟩⟩
  · rw [State.skip_line, hline]
    exact ⟨.inl rfl, .inr ⟨rfl, .inr ⟨⟨⟨good, bad, fe, pe, be, hturn⟩, hen, hrx, hloop⟩, hbad⟩⟩⟩

end Sys2Proof.Machine
end

section
/-! PROOFS. The rest of the decoder's examples, of the entry state and of locals and RAM (30_encoding R302, 10_state R100, R160,
40_registerio R410, R411). -/

namespace Sys2Proof.Machine

open Sys2Proof

/-- Settles O1: closed runs of the decoder. -/
theorem writtenWordsDecode : Obligations.WrittenWordsDecode := by
  unfold Obligations.WrittenWordsDecode
  decide

/-! ### The entry state (R160) -/

theorem isEntry_reset : IsEntry State.reset where
  params := by decide
  ctx := rfl
  irqMask := rfl
  vbarSet := rfl
  saved := rfl
  savedMask := rfl
  icPhase := rfl
  cyc := rfl
  tick := rfl
  inputHandler := rfl
  surface := rfl
  uartInitialized := rfl
  en1 := rfl
  en2 := rfl
  enb := rfl
  fiq := by decide
  pull := rfl
  pudT := rfl
  clkT := rfl
  inq := Nat.zero_le _
  outq := Nat.zero_le _
  txq := Nat.zero_le _
  rxq := Nat.zero_le _
  ris := by decide
  mem := ⟨rfl, fun _ _ _ => rfl⟩
  tx := rfl
  garbled := rfl

theorem IsEntry.invariant {s : State} (h : IsEntry s) : Invariant s where
  mem := h.mem.left
  inq := h.inq
  outq := h.outq
  txq := h.txq
  rxq := h.rxq
  saved := by rw [h.saved, h.ctx]; rfl
  masked := fun _ => h.irqMask
  savedMask := h.savedMask
  vbar := fun hset => absurd (h.vbarSet.symm.trans hset) (by decide)
  fiq := h.fiq
  ris := h.ris
  pudT := h.pudT ▸ Nat.zero_le _
  clkT := fun p => by
    rw [h.clkT, Fin.getElem_fin, Vector.getElem_replicate]
    exact Nat.zero_le _

/-- Settles O8: the fields of reset, and each of the invariant's from those that R160 fixes. -/
theorem entryStatesMeetTheInvariant : Obligations.EntryStatesMeetTheInvariant :=
  ⟨isEntry_reset, fun _ h => h.invariant⟩

/-! ### Locals (R100, R101) -/

theorem lookup_bindLocal_same (x : Nat) (v : Value) (env : Locals) : (bindLocal x v env).lookup x = some v :=
  List.lookup_cons_self

theorem lookup_bindLocal_other {x y : Nat} (hne : y ≠ x) (v : Value) (env : Locals) :
    (bindLocal x v env).lookup y = env.lookup y := by
  rw [bindLocal, List.lookup_cons, beq_eq_false_iff_ne.2 hne]
  induction env with
  | nil => rfl
  | cons p env ih =>
    by_cases hp : p.1 = x
    · rw [List.filter_cons_of_neg (by simpa using hp), List.lookup_cons, hp, beq_eq_false_iff_ne.2 hne]
      exact ih
    · rw [List.filter_cons_of_pos (by simpa using hp), List.lookup_cons, List.lookup_cons]
      cases y == p.1 with
      | true => rfl
      | false => exact ih

/-- Where some program text is running, the binding is in its locals. -/
theorem scopeLocals_bindScope (x : Nat) (v : Value) {ts : List Task} (h : ∃ ws env, Task.code ws env ∈ ts) :
    scopeLocals (bindScope x v ts) = bindLocal x v (scopeLocals ts) := by
  induction ts with
  | nil =>
    obtain ⟨_, _, hmem⟩ := h
    cases hmem
  | cons t ts ih =>
    obtain ⟨ws, env, hmem⟩ := h
    cases t with
    | code => rfl
    | op | tickStep | uartInitStep | cpsieArm =>
      exact ih ⟨ws, env, (List.mem_cons.1 hmem).resolve_left (fun heq => nomatch heq)⟩

theorem State.eval_loc (s : State) (x : Nat) : s.eval (.loc x) =
    (((scopeLocals s.cpu.cont).lookup x).bind Value.word?).getD (Config.unboundLocal s.draws x) := rfl

theorem State.eval_loc_bindScope_same {s : State} (h : ∃ ws env, Task.code ws env ∈ s.cpu.cont) (x : Nat) (v : Word) :
    (s.setCont (bindScope x (.word v) s.cpu.cont)).eval (.loc x) = v := by
  rw [State.eval_loc, State.setCont_cpu_cont, scopeLocals_bindScope x _ h, lookup_bindLocal_same]
  rfl

theorem State.eval_loc_bindScope_other {s : State} (h : ∃ ws env, Task.code ws env ∈ s.cpu.cont) {x y : Nat} (hne : y ≠ x)
    (v : Word) : (s.setCont (bindScope x (.word v) s.cpu.cont)).eval (.loc y) = s.eval (.loc y) := by
  rw [State.eval_loc, State.setCont_cpu_cont, scopeLocals_bindScope x _ h, lookup_bindLocal_other hne]
  rfl

/-- Settles O13: the arrival at a local is `bindScope`; any arrival is `deliver_spec`. -/
theorem readBindsItsLocalAlone : Obligations.ReadBindsItsLocalAlone := by
  refine ⟨fun x v s h => ⟨State.eval_loc_bindScope_same h x v, fun y hne => State.eval_loc_bindScope_other h hne v⟩,
    fun d v s => ?_⟩
  obtain ⟨c, x, heq, _⟩ := deliver_spec d v s
  rw [heq]
  exact ⟨fun _ => rfl, rfl, rfl, rfl, rfl, rfl, rfl, rfl, rfl, rfl, rfl, rfl, rfl⟩

/-! ### LDW (R410) -/

theorem ramFault_of_misaligned {s : State} {a : Nat} (h : a % 4 ≠ 0) : ramFault s a = some (.misalignedAddress a) := if_pos h

theorem ramFault_of_outside {s : State} {a : Nat} (halign : a % 4 = 0) (h : s.params.periphBase.toNat ≤ a) :
    ramFault s a = some (.outsideRam a) := by
  rw [ramFault, if_neg (not_not_intro halign), if_pos h]

/-- 20 R210: byte `i` of the word at an address, the lowest first. -/
theorem State.extractLsb'_wordAt (s : State) (a : Nat) {i : Nat} (hi : i < 4) :
    (s.wordAt a).extractLsb' (8 * i) 8 = s.byteAt (a + i) := by
  refine BitVec.eq_of_getLsbD_eq fun j hj => ?_
  rw [BitVec.getLsbD_extractLsb', decide_eq_true hj, Bool.true_and, State.wordAt]
  simp only [BitVec.getLsbD_append]
  interval_cases i
  · rw [if_pos (by omega), Nat.mul_zero, Nat.zero_add, Nat.add_zero]
  · rw [if_neg (by omega), if_pos (by omega)]
    congr 1
    omega
  · rw [if_neg (by omega), if_neg (by omega), if_pos (by omega)]
    congr 1
    omega
  · rw [if_neg (by omega), if_neg (by omega), if_neg (by omega)]
    congr 1
    omega

theorem execLdw_of_ram {a : Expr} {s : State} (h : ramFault s (s.eval a).toNat = none) (d : Dest) :
    execLdw a d s = .next (deliver d (s.wordAt (s.eval a).toNat) (s.retire 1)) := by
  rw [execLdw, h]
  exact readInto_eq d _ s

theorem execLdw_of_fault {a : Expr} {s : State} {r : Refusal} (h : ramFault s (s.eval a).toNat = some r) (d : Dest) :
    execLdw a d s = .refused r := by
  rw [execLdw, h]

/-- Settles O40: the check of the address decides. -/
theorem loadGivesTheFourBytes : Obligations.LoadGivesTheFourBytes :=
  ⟨fun _ _ => rfl, fun _ d s =>
    ⟨fun halign hram => ⟨_, execLdw_of_ram (ramFault_none.2 ⟨halign, hram⟩) d, fun _ hi => s.extractLsb'_wordAt _ hi⟩,
      fun halign => execLdw_of_fault (ramFault_of_misaligned halign) d,
      fun halign hout => execLdw_of_fault (ramFault_of_outside halign hout) d⟩⟩

/-! ### STW (R411) -/

theorem inVectorTable_iff (s : State) (a : Nat) : inVectorTable s a = true ↔
    s.cpu.vbarSet = true ∧ s.cpu.vbar.toNat ≤ a ∧ a < s.cpu.vbar.toNat + 32 := by
  simp only [inVectorTable, Bool.and_eq_true, decide_eq_true_eq, and_assoc]

/-- A byte after a store of a word, by its place in the word. -/
theorem State.byteAt_putWord_eq {s : State} {a : Nat} (v : Word) (ha : a + 3 < 4294967296) (h : s.mem.wf s.params = true)
    (x : Nat) : (s.putWord a v).byteAt x = if a ≤ x ∧ x < a + 4 then v.extractLsb' (8 * (x - a)) 8 else s.byteAt x := by
  split
  case isFalse hout => exact State.byteAt_putWord_outside v ha h (by omega)
  case isTrue hin =>
    obtain ⟨i, rfl⟩ := Nat.exists_eq_add_of_le hin.left
    have hi : i < 4 := by omega
    rw [State.byteAt_putWord v ha h, Nat.add_sub_cancel_left]
    interval_cases i <;> simp

theorem execStw_of_ram {a : Expr} (v : Expr) {s : State} (h : ramFault s (s.eval a).toNat = none)
    (htable : ¬ inVectorTable s (s.eval a).toNat = true) :
    execStw a v s = .next ((s.setMem (s.putWord (s.eval a).toNat (s.eval v)).mem).retire 1) := by
  rw [← State.putWord_eq]
  simp only [execStw, h]
  rw [if_neg htable, wrote_eq]

theorem execStw_of_table {a : Expr} (v : Expr) {s : State} (h : ramFault s (s.eval a).toNat = none)
    (htable : inVectorTable s (s.eval a).toNat = true) :
    execStw a v s = .refused (.vectorTableWrite (s.eval a).toNat) := by
  simp only [execStw, h]
  rw [if_pos htable]

theorem execStw_of_fault {a : Expr} (v : Expr) {s : State} {r : Refusal} (h : ramFault s (s.eval a).toNat = some r) :
    execStw a v s = .refused r := by
  simp only [execStw, h]

/-- Settles O41: the check of the address decides, and then whether the table holds it. -/
theorem storeWritesTheFourBytes : Obligations.StoreWritesTheFourBytes := by
  refine ⟨fun _ _ => rfl, fun a v s hm => ?_⟩
  intro addr inTable
  have table : inVectorTable s addr = true ↔ inTable := inVectorTable_iff s addr
  refine ⟨fun halign hram hfree => ?_, fun halign => execStw_of_fault v (ramFault_of_misaligned halign),
    fun halign hout => execStw_of_fault v (ramFault_of_outside halign hout),
    fun halign hram hin => execStw_of_table v (ramFault_none.2 ⟨halign, hram⟩) (table.2 hin)⟩
  have hok : ramFault s addr = none := ramFault_none.2 ⟨halign, hram⟩
  refine ⟨_, execStw_of_ram v hok (mt table.1 hfree), State.wf_putWord _ (ramFault_bound hok) hm, fun x => ?_⟩
  rw [← State.putWord_eq]
  exact State.byteAt_putWord_eq _ (ramFault_bound hok) hm x

end Sys2Proof.Machine
end

section
/-! PROOFS. The GPIO driver operations (41_gpio R540 to R543): their expansions, and the two runs to the end by the CPU. -/

namespace Sys2Proof.Machine

open Sys2Proof

/-! ### Expansions (R540 to R543) -/

theorem execGpioSetFunction_of_above {p : Nat} (hp : 53 < p) (f : Nat) (s : State) : execGpioSetFunction p f s = .next s := by
  rw [execGpioSetFunction, if_pos hp]
  rfl

theorem execGpioSetOutput_of_above {p : Nat} (hp : 53 < p) (level : Expr) (s : State) :
    execGpioSetOutput p level s = .next s := by
  rw [execGpioSetOutput, if_pos hp]
  rfl

theorem execGpioSetPull_of_above {p : Nat} (hp : 53 < p) (mode : Nat) (s : State) : execGpioSetPull p mode s = .next s := by
  rw [execGpioSetPull, if_pos hp]
  rfl

theorem execGpioGetInput_of_above {p : Nat} (hp : 53 < p) (r : Ret) (s : State) :
    execGpioGetInput p r s = .next (giveResult r (.bool false) s) := if_pos hp

theorem execGpioSetOutput_of_pin {p : Nat} (hp : ¬ 53 < p) (level : Expr) (s : State) :
    execGpioSetOutput p level s = .next (s.push [.op (wrOutput p (decide (s.eval level ≠ 0#32)))]) := by
  rw [execGpioSetOutput, if_neg hp, expandTo_eq]

theorem execGpioGetInput_of_pin {p : Nat} (hp : ¬ 53 < p) (r : Ret) (s : State) :
    execGpioGetInput p r s = .next (s.push [.op (rdLevel p (.levelBit (p % 32) r))]) := by
  rw [execGpioGetInput, if_neg hp, expandTo_eq]

theorem pinBank_of_low {p : Nat} (h : p < 32) : pinBank p = 0 := if_pos h

theorem pinBank_of_high {p : Nat} (h : 32 ≤ p) : pinBank p = 1 := if_neg (Nat.not_lt.2 h)

theorem pinBit_of_low {p : Nat} (h : p < 32) : pinBit p = 1#32 <<< p := by rw [pinBit, Nat.mod_eq_of_lt h]

theorem pinBit_of_high {p : Nat} (hlo : 32 ≤ p) (hhi : p ≤ 53) : pinBit p = 1#32 <<< (p - 32) := by
  rw [pinBit, show p % 32 = p - 32 by omega]

theorem wrOutput_of_low {p : Nat} (h : p < 32) (v : Word) : wrOutput p (decide (v ≠ 0#32)) =
    if v = 0#32 then .wr32Gpclr0 (.lit (1#32 <<< p)) else .wr32Gpset0 (.lit (1#32 <<< p)) := by
  by_cases hv : v = 0#32 <;> simp [wrOutput, pinBank_of_low h, pinBit_of_low h, hv]

theorem wrOutput_of_high {p : Nat} (hlo : 32 ≤ p) (hhi : p ≤ 53) (v : Word) : wrOutput p (decide (v ≠ 0#32)) =
    if v = 0#32 then .wr32Gpclr1 (.lit (1#32 <<< (p - 32))) else .wr32Gpset1 (.lit (1#32 <<< (p - 32))) := by
  by_cases hv : v = 0#32 <;> simp [wrOutput, pinBank_of_high hlo, pinBit_of_high hlo hhi, hv]

theorem rdLevel_of_low {p : Nat} (h : p < 32) (d : Dest) : rdLevel p d = .rd32Gplev0 d := by
  simp only [rdLevel, pinBank_of_low h]

theorem rdLevel_of_high {p : Nat} (h : 32 ≤ p) (d : Dest) : rdLevel p d = .rd32Gplev1 d := by
  simp only [rdLevel, pinBank_of_high h]

theorem wrPudclk_of_low {p : Nat} (h : p < 32) (v : Word) : wrPudclk p v = .wr32Gppudclk0 (.lit v) := by
  simp only [wrPudclk, pinBank_of_low h]

theorem wrPudclk_of_high {p : Nat} (h : 32 ≤ p) (v : Word) : wrPudclk p v = .wr32Gppudclk1 (.lit v) := by
  simp only [wrPudclk, pinBank_of_high h]

/-- The registers of the six rows of the function-select table, for pin `10 * k + j`. -/
theorem fselInsert_of_row {k j f : Nat} (hj : j < 10) (x : Word) : fselInsert (10 * k + j) f x =
    (x &&& ~~~(7#32 <<< (3 * j))) ||| (BitVec.ofNat 32 f <<< (3 * j)) := by
  rw [fselInsert, fselShift, show (10 * k + j) % 10 = j by omega]

theorem fselReg_of_row {k j : Nat} (hj : j < 10) : fselReg (10 * k + j) = k := by
  unfold fselReg
  omega

/-- Settles O21: a pin above 53, in bank 0 or in bank 1; the row of the function-select table is the register of the pin. -/
theorem gpioOperationsExpand : Obligations.GpioOperationsExpand := by
  refine ⟨fun _ _ _ _ _ => rfl, fun row hrow j f s hj hpin hf => ?_, fun p s => ⟨fun hp => ?_, fun _ _ _ => rfl, fun hlow => ?_,
    fun hlo hhi => ?_⟩⟩
  · have hreg : fselReg (10 * row.1 + j) = row.1 := fselReg_of_row hj
    have dispatch (d : Dest) (v : Expr) : rdGpfsel row.1 d = row.2.1 d ∧ wrGpfsel row.1 v = row.2.2 v := by
      fin_cases hrow <;> exact ⟨rfl, rfl⟩
    refine ⟨(execGpioSetFunction_of_pin hpin f s).trans ?_, fun x => ?_⟩
    · obtain ⟨hrd, _⟩ := dispatch (.fselModify (10 * row.1 + j) f) (.lit 0#32)
      rw [hreg, hrd]
    · obtain ⟨_, hwr⟩ := dispatch .ignore (.lit (fselInsert (10 * row.1 + j) f x))
      rw [deliver, hreg, hwr, fselInsert_of_row hj]
  · exact ⟨fun f => execGpioSetFunction_of_above hp f s, fun l => execGpioSetOutput_of_above hp l s,
      fun r => execGpioGetInput_of_above hp r s, fun m => execGpioSetPull_of_above hp m s⟩
  · have hpin : ¬ 53 < p := by omega
    refine fun l r m => ⟨(execGpioSetOutput_of_pin hpin l s).trans ?_, (execGpioGetInput_of_pin hpin r s).trans ?_,
      (execGpioSetPull_of_pin (by omega) m s).trans ?_⟩
    · rw [wrOutput_of_low hlow]
    · rw [rdLevel_of_low hlow, Nat.mod_eq_of_lt hlow]
    · rw [pullTasks, wrPudclk_of_low hlow, wrPudclk_of_low hlow, pinBit_of_low hlow, Config.pudHold]
  · have hpin : ¬ 53 < p := by omega
    refine fun l r m => ⟨(execGpioSetOutput_of_pin hpin l s).trans ?_, (execGpioGetInput_of_pin hpin r s).trans ?_,
      (execGpioSetPull_of_pin (by omega) m s).trans ?_⟩
    · rw [wrOutput_of_high hlo hhi]
    · rw [rdLevel_of_high hlo, show p % 32 = p - 32 by omega]
    · rw [pullTasks, wrPudclk_of_high hlo, wrPudclk_of_high hlo, pinBit_of_high hlo hhi, Config.pudHold]

/-! ### gpio_set_function, run to its end (R540) -/

/-- Settles O22: the run is `cpuSteps_gpioSetFunction`, with nothing after it. -/
theorem setFunctionSetsOnePin : Obligations.SetFunctionSetsOnePin := by
  refine ⟨fun _ _ => rfl, fun p f s ts hp hf => ⟨⟨_, execGpioSetFunction_of_pin hp f s⟩, fun hcont => ?_⟩⟩
  obtain ⟨fsel, c, k, hrun, hpins⟩ := cpuSteps_gpioSetFunction 0 hp (Nat.lt_succ_of_le hf) hcont
  exact ⟨_, fsel, hrun, rfl, hpins, rfl, rfl, rfl, rfl, rfl, rfl, rfl, rfl, fun _ => rfl⟩

/-! ### gpio_set_pull, run to its end (R543) -/

theorem pinBank_lt (p : Nat) : pinBank p < 2 := by
  unfold pinBank
  split <;> decide

theorem exec_wrPudclk (p : Nat) (v : Word) (s : State) :
    exec (wrPudclk p v) s = .next ((s.setGpio (pudclkWrite s (pinBank p) v)).retire 1) := by
  by_cases h : p < 32
  · rw [wrPudclk_of_low h, pinBank_of_low h]
    rfl
  · rw [wrPudclk_of_high (Nat.not_lt.1 h), pinBank_of_high (Nat.not_lt.1 h)]
    rfl

/-- GPPUD is written and set up: `mode`, and the hold time after it. -/
def State.pullSetUp (s : State) (mode : BitVec 2) : State := ((s.setGpio (pudWrite s mode)).retire 1).retire Config.pudHold

/-- The pin's clock rises, and the hold time after it. -/
def State.pullClocked (s : State) (p : Nat) : State :=
  ((s.setGpio (pudclkWrite s (pinBank p) (pinBit p))).retire 1).retire Config.pudHold

/-- GPPUD and the clocks of the pin's bank go back to 0. -/
def State.pullReleased (s : State) (p : Nat) : State :=
  let cleared := (s.setGpio (pudWrite s 0#2)).retire 1
  (cleared.setGpio (pudclkWrite cleared (pinBank p) 0#32)).retire 1

/-- R543's six primitives, two by two. -/
theorem cpuSteps_gpioSetPull_eq {s : State} {p mode : Nat} {ts : List Task} (hp : p < 54) (hmode : mode ≤ 2)
    (hcont : s.cpu.cont = .op (.gpioSetPull p mode) :: ts) : cpuSteps 7 s =
      .next (((((s.setCont ts).pullSetUp (BitVec.ofNat 2 mode)).pullClocked p)).pullReleased p) := by
  have hlow : ∀ m ≤ 2, (BitVec.ofNat 32 m).extractLsb' 0 2 = BitVec.ofNat 2 m ∧ BitVec.ofNat 2 m ≠ 3#2 := by decide
  obtain ⟨hfield, hne⟩ := hlow mode hmode
  have setMode (u : State) : exec (.wr32Gppud (.lit (BitVec.ofNat 32 mode))) u =
      .next ((u.setGpio (pudWrite u (BitVec.ofNat 2 mode))).retire 1) := by
    rw [← hfield]
    exact execWr32Gppud_of_ne (v := .lit (BitVec.ofNat 32 mode)) (by rw [State.eval_lit, hfield]; exact hne)
  have clearMode (u : State) : exec (.wr32Gppud (.lit 0#32)) u = .next ((u.setGpio (pudWrite u 0#2)).retire 1) :=
    execWr32Gppud_of_ne (v := .lit 0#32) (by rw [State.eval_lit]; decide)
  calc cpuSteps 7 s
    _ = cpuSteps 6 (s.setCont (pullTasks p mode ++ ts)) := cpuSteps_succ_of_op 6 hcont (execGpioSetPull_of_pin hp mode _)
    _ = cpuSteps 4 (((s.setCont ts).pullSetUp (BitVec.ofNat 2 mode)).setCont
          (.op (wrPudclk p (pinBit p)) :: .op (.spin Config.pudHold) :: .op (.wr32Gppud (.lit 0#32)) ::
            .op (wrPudclk p 0#32) :: ts)) :=
      (cpuSteps_succ_of_op 5 rfl (setMode _)).trans (cpuSteps_succ_of_op 4 rfl rfl)
    _ = cpuSteps 2 ((((s.setCont ts).pullSetUp (BitVec.ofNat 2 mode)).pullClocked p).setCont
          (.op (.wr32Gppud (.lit 0#32)) :: .op (wrPudclk p 0#32) :: ts)) :=
      (cpuSteps_succ_of_op 3 rfl (exec_wrPudclk p _ _)).trans (cpuSteps_succ_of_op 2 rfl rfl)
    _ = .next _ := (cpuSteps_succ_of_op 1 rfl (clearMode _)).trans (cpuSteps_succ_of_op 0 rfl (exec_wrPudclk p _ _))

theorem retire_retire_cyc_ge (m n : Nat) (s : State) : s.cyc + max m 1 + max n 1 ≤ ((s.retire m).retire n).cyc := by
  have := (s.retire m).retire_cyc_le n
  have := s.retire_cyc_le m
  omega

theorem getLsbD_pinBit (p : Nat) : (pinBit p).getLsbD (p % 32) = true := by
  simp [pinBit, Nat.mod_lt]

/-- R516 (a): a control set up for the hold time is what the rising clock samples. -/
theorem pullClocked_pull {s : State} {p : Nat} {mode : BitVec 2} (hp : p < 54) (hmode : mode ≠ 3#2)
    (hclk : s.gpio.pudclk.getLsbD p = false) (hpud : s.gpio.pud = mode) (hset : s.gpio.pudT + 150 ≤ s.cyc) :
    (s.pullClocked p).gpio.pull[p] = decodePull mode ∧ (s.pullClocked p).gpio.clkT[p] = s.cyc := by
  obtain ⟨_, hsample, _⟩ := pudclkWrite_pin (pinBank_lt p) hp s (pinBit p)
  obtain ⟨hpull, _, htime⟩ := hsample ⟨(pinBank_eq_iff (pinBank_lt p) p).1 rfl, hclk, getLsbD_pinBit p⟩
  refine ⟨hpull.trans ?_, htime⟩
  have hheld : Config.pudHold ≤ s.cyc - s.gpio.pudT := by
    rw [Config.pudHold]
    omega
  rw [sampledPull, if_pos hheld, hpud, if_neg hmode]

/-- R516 (b) and (c): after the hold time neither the change of GPPUD nor the falling clock touches the pull. -/
theorem pullReleased_pull {s : State} {p : Nat} (hp : p < 54) (hheld : s.gpio.clkT[p] + 150 ≤ s.cyc) :
    (s.pullReleased p).gpio.pull[p] = s.gpio.pull[p] := by
  have hkept : ¬ breaksHold s ⟨p, hp⟩ = true := by
    rw [breaksHold_iff]
    rintro ⟨_, hshort⟩
    have hshort : s.cyc - s.gpio.clkT[p] < 150 := hshort
    omega
  have hnoedge : ∀ g : Gpio, clockEdge g (pinBank p) 0#32 p = false := fun g => by
    rw [clockEdge, BitVec.getLsbD_zero, Bool.and_false]
  show (pudclkWrite _ (pinBank p) 0#32).pull[p] = _
  rw [pudclkWrite_pull _ _ _ p hp, hnoedge, if_neg Bool.false_ne_true, State.retire_gpio, State.setGpio_gpio,
    pudWrite_pull s _ p hp, if_neg (fun hbreak => hkept hbreak.right)]

theorem pullReleased_pudclk (s : State) {p q : Nat} (hq : q < 54) (hbank : q < 32 ↔ p < 32) :
    (s.pullReleased p).gpio.pudclk.getLsbD q = false := by
  have hsame : pinBank q = pinBank p := if_congr hbank rfl rfl
  show (pudclkWrite _ (pinBank p) 0#32).pudclk.getLsbD q = false
  rw [pudclkWrite_pudclk _ _ _ q hq, if_pos hsame, BitVec.getLsbD_zero]

/-- What the three stages leave alone. -/
theorem pull_stages_gpio (s : State) (mode : BitVec 2) (p : Nat) :
    ((s.pullSetUp mode).gpio.pudclk = s.gpio.pudclk ∧ (s.pullSetUp mode).gpio.pud = mode ∧
      (s.pullSetUp mode).gpio.pudT = s.cyc) ∧
    ((s.pullSetUp mode).gpio.fsel = s.gpio.fsel ∧ (s.pullSetUp mode).gpio.out = s.gpio.out) ∧
    ((s.pullClocked p).gpio.fsel = s.gpio.fsel ∧ (s.pullClocked p).gpio.out = s.gpio.out) ∧
    ((s.pullReleased p).gpio.fsel = s.gpio.fsel ∧ (s.pullReleased p).gpio.out = s.gpio.out) ∧
    (s.pullReleased p).gpio.pud = 0#2 := by
  simp only [State.pullSetUp, State.pullClocked, State.pullReleased, State.retire_gpio, State.setGpio_gpio, pudWrite_pudclk,
    pudWrite_pud, pudWrite_pudT, pudWrite_fsel, pudWrite_out, pudclkWrite_fsel, pudclkWrite_out, pudclkWrite_pud, and_self]

theorem pull_stages_cyc (s : State) (mode : BitVec 2) (p : Nat) : s.cyc + 151 ≤ (s.pullSetUp mode).cyc ∧
    s.cyc + 151 ≤ (s.pullClocked p).cyc ∧ s.cyc + 2 ≤ (s.pullReleased p).cyc :=
  ⟨retire_retire_cyc_ge 1 150 (s.setGpio _), retire_retire_cyc_ge 1 150 (s.setGpio _),
    retire_retire_cyc_ge 1 1 (s.setGpio _)⟩

theorem decodePull_ofNat {mode : Nat} (h : mode ≤ 2) : decodePull (BitVec.ofNat 2 mode) =
    if mode = 0 then Pull.off else if mode = 1 then Pull.down else Pull.up := by
  revert mode
  decide

/-- Settles O23: the run is `cpuSteps_gpioSetPull_eq`; each of its two `SPIN`s keeps a hold time. -/
theorem setPullSetsThePull : Obligations.SetPullSetsThePull := by
  intro p mode s ts hp hmode hclk hcont
  have hne : ∀ m ≤ 2, BitVec.ofNat 2 m ≠ 3#2 := by decide
  refine ⟨_, cpuSteps_gpioSetPull_eq hp hmode hcont, ?_⟩
  generalize hset : (s.setCont ts).pullSetUp (BitVec.ofNat 2 mode) = up
  generalize hrise : up.pullClocked p = clocked
  obtain ⟨⟨hclk1, hpud1, htime1⟩, ⟨hfsel1, hout1⟩, _⟩ := pull_stages_gpio (s.setCont ts) (BitVec.ofNat 2 mode) p
  obtain ⟨_, _, ⟨hfsel2, hout2⟩, _⟩ := pull_stages_gpio up 0#2 p
  obtain ⟨_, _, _, ⟨hfsel3, hout3⟩, hpud3⟩ := pull_stages_gpio clocked 0#2 p
  obtain ⟨hcyc1, _⟩ := pull_stages_cyc (s.setCont ts) (BitVec.ofNat 2 mode) p
  obtain ⟨_, hcyc2, _⟩ := pull_stages_cyc up 0#2 p
  obtain ⟨_, _, hcyc3⟩ := pull_stages_cyc clocked 0#2 p
  rw [hset] at hclk1 hpud1 htime1 hfsel1 hout1 hcyc1
  rw [hrise] at hfsel2 hout2 hcyc2
  rw [State.setCont_cyc] at hcyc1 htime1
  obtain ⟨hpull, htime2⟩ := pullClocked_pull hp (hne mode hmode) ((congrArg (·.getLsbD p) hclk1).trans hclk) hpud1 (by omega)
  rw [hrise] at hpull htime2
  refine ⟨?_, hpud3, fun q hq hbank => pullReleased_pudclk _ hq hbank, hfsel3.trans (hfsel2.trans hfsel1),
    hout3.trans (hout2.trans hout1), by omega, ?_⟩
  · rw [pullReleased_pull hp (by omega), hpull, decodePull_ofNat hmode]
  · subst hrise hset
    exact ⟨rfl, rfl, rfl, rfl, rfl, rfl, rfl, rfl, fun _ => rfl⟩

end Sys2Proof.Machine
end

section
/-! PROOFS. The timer operations that read the counter more than once (43_timer R731, R732): facts about halves of counter values. -/

namespace Sys2Proof.Machine

open Sys2Proof

/-! ### timer_now_us64 (R731) -/

theorem toNat_highHalf (c : BitVec 64) : (c.extractLsb' 32 32).toNat = c.toNat / 4294967296 := by
  have := c.isLt
  rw [BitVec.extractLsb'_toNat, Nat.shiftRight_eq_div_pow]
  omega

/-- Between two counter values with the same high half, every value has it. -/
theorem highHalf_eq_of_between {a b c : BitVec 64} (hab : a.toNat ≤ b.toNat) (hbc : b.toNat ≤ c.toNat)
    (h : c.extractLsb' 32 32 = a.extractLsb' 32 32) : b.extractLsb' 32 32 = a.extractLsb' 32 32 := by
  rw [← BitVec.toNat_inj, toNat_highHalf, toNat_highHalf] at h ⊢
  omega

theorem append_halves (c : BitVec 64) : c.extractLsb' 32 32 ++ c.extractLsb' 0 32 = c := by
  refine BitVec.eq_of_getLsbD_eq fun i hi => ?_
  rw [BitVec.getLsbD_append]
  split
  case isTrue hlow => rw [BitVec.getLsbD_extractLsb', decide_eq_true hlow, Bool.true_and, Nat.zero_add]
  case isFalse hhigh =>
    rw [BitVec.getLsbD_extractLsb', decide_eq_true (by omega), Bool.true_and, Nat.add_sub_cancel' (Nat.not_lt.1 hhigh)]

theorem deliver_now64Hi2_of_eq (r : Ret) {hi v : Word} (lo : Word) (s : State) (h : v = hi) :
    deliver (.now64Hi2 r hi lo) v s = giveResult r (.dword (hi ++ lo)) s := if_pos h

theorem deliver_now64Hi2_of_ne (r : Ret) {hi v : Word} (lo : Word) (s : State) (h : v ≠ hi) :
    deliver (.now64Hi2 r hi lo) v s = s.push [.op (.rd32StChi (.now64Hi r))] := if_neg h

/-- Settles O28: without a wrap, equal high halves at both ends leave the middle value no other. -/
theorem nowReadsTheCounterAtTheMiddleRead : Obligations.NowReadsTheCounterAtTheMiddleRead := by
  refine ⟨fun r hi v s => ⟨rfl, rfl⟩, fun x c j k s hwrap => ?_⟩
  intro mid hi third
  have hmid : mid.toNat = c.toNat + j := by
    show (c + BitVec.ofNat 64 j).toNat = _
    rw [BitVec.toNat_add, BitVec.toNat_ofNat]
    omega
  have hlast : (c + BitVec.ofNat 64 (j + k)).toNat = c.toNat + j + k := by
    rw [BitVec.toNat_add, BitVec.toNat_ofNat]
    omega
  refine ⟨fun hcnt => ?_, fun hcnt => ?_, fun hcnt => ⟨fun hsame => ?_, fun hdiff => ?_⟩⟩
  · subst hcnt
    exact execRd32StChi_eq _ s
  · refine (execRd32StClo_eq _ s).trans ?_
    rw [hcnt]
    rfl
  · have hhigh : mid.extractLsb' 32 32 = hi := by
      rw [hcnt] at hsame
      exact highHalf_eq_of_between (by omega) (by omega) hsame
    refine (execRd32StChi_eq _ s).trans ?_
    rw [deliver_now64Hi2_of_eq _ _ _ hsame, ← hhigh, append_halves]
    rfl
  · refine (execRd32StChi_eq _ s).trans ?_
    rw [deliver_now64Hi2_of_ne _ _ _ hdiff]

/-! ### timer_sleep_us (R732) -/

theorem deliver_sleepUntil_of_reached {target v : Word} (s : State) (h : target.toNat ≤ v.toNat) :
    deliver (.sleepUntil target) v s = s := if_pos h

theorem deliver_sleepUntil_of_early {target v : Word} (s : State) (h : v.toNat < target.toNat) :
    deliver (.sleepUntil target) v s = s.push [.op (.rd32StClo (.sleepUntil target))] := if_neg (Nat.not_le_of_lt h)

theorem deliver_sleepWrap_of_wrapped {start v : Word} (target : Word) (s : State) (h : v.toNat < start.toNat) :
    deliver (.sleepWrap start target) v s = s.push [.op (.rd32StClo (.sleepUntil target))] := if_pos h

theorem deliver_sleepWrap_of_waiting {start v : Word} (target : Word) (s : State) (h : start.toNat ≤ v.toNat) :
    deliver (.sleepWrap start target) v s = s.push [.op (.rd32StClo (.sleepWrap start target))] :=
  if_neg (Nat.not_lt_of_le h)

/-- Two expansions of one length leave the same state only if they are the same. -/
theorem State.push_op_inj {s : State} {i j : Instr} (h : s.push [.op i] = s.push [.op j]) : i = j := by
  have hcont := congrArg (fun t => t.cpu.cont) h
  injection hcont with hhead
  injection hhead

theorem State.push_op_ne_self (s : State) (i : Instr) : s.push [.op i] ≠ s := fun h =>
  List.cons_ne_self _ _ (congrArg (fun t => t.cpu.cont) h)

/-- Phase 2 ends only with a value at or above the target. -/
theorem le_of_deliver_sleepUntil {target v : Word} {s : State} (h : deliver (.sleepUntil target) v s = s) :
    target.toNat ≤ v.toNat := by
  by_contra hearly
  rw [deliver_sleepUntil_of_early s (Nat.lt_of_not_le hearly)] at h
  exact s.push_op_ne_self _ h

/-- Phase 1 ends only with a value below the start. -/
theorem lt_of_deliver_sleepWrap {start target v : Word} {s : State}
    (h : deliver (.sleepWrap start target) v s = s.push [.op (.rd32StClo (.sleepUntil target))]) : v.toNat < start.toNat := by
  by_contra hwaiting
  rw [deliver_sleepWrap_of_waiting target s (Nat.le_of_not_lt hwaiting)] at h
  exact nomatch State.push_op_inj h

theorem deliver_sleepStart_of_noWrap {start us : Word} (s : State) (h : start.toNat + us.toNat < 2 ^ 32) :
    deliver (.sleepStart us) start s = s.push [.op (.rd32StClo (.sleepUntil (start + us)))] := by
  have hsum : ¬ (start + us).toNat < start.toNat := by
    rw [BitVec.toNat_add, Nat.mod_eq_of_lt h]
    omega
  rw [deliver, sleepTasks, if_neg hsum]

theorem deliver_sleepStart_of_wrap {start us : Word} (s : State) (h : 2 ^ 32 ≤ start.toNat + us.toNat) :
    deliver (.sleepStart us) start s = s.push [.op (.rd32StClo (.sleepWrap start (start + us)))] := by
  have hsum : (start + us).toNat < start.toNat := by
    have := start.isLt
    have := us.isLt
    rw [BitVec.toNat_add]
    omega
  rw [deliver, sleepTasks, if_pos hsum]

/-- Settles O29: the waits' ends bound the low halves, and the counter values are exact. -/
theorem sleepLastsAtLeastItsDuration : Obligations.SleepLastsAtLeastItsDuration := by
  refine ⟨fun start target v s => ⟨deliver_sleepUntil_of_reached s, deliver_sleepUntil_of_early s,
    deliver_sleepWrap_of_wrapped target s, deliver_sleepWrap_of_waiting target s⟩, fun us c0 c1 c2 s h01 h12 => ?_⟩
  intro low target
  have hlow (c : Nat) : (low c).toNat = c % 2 ^ 32 := BitVec.toNat_ofNat c 32
  have htarget : target.toNat = (c0 % 2 ^ 32 + us.toNat) % 2 ^ 32 := by
    show (low c0 + us).toNat = _
    rw [BitVec.toNat_add, hlow]
  have hus := us.isLt
  refine ⟨fun hsum => ⟨deliver_sleepStart_of_noWrap s (by rwa [hlow]), fun hend => ?_⟩,
    fun hsum => ⟨deliver_sleepStart_of_wrap s (by rwa [hlow]), fun hphase1 hend => ?_⟩⟩
  · have hreached := le_of_deliver_sleepUntil hend
    rw [htarget, hlow] at hreached
    omega
  · have hwrapped := lt_of_deliver_sleepWrap hphase1
    have hreached := le_of_deliver_sleepUntil hend
    rw [hlow, hlow] at hwrapped
    rw [htarget, hlow] at hreached
    omega

end Sys2Proof.Machine
end

section
/-! PROOFS. Pending registers and the order of service (44_intc R801, R802, R804 to R806, R870 to R873). -/

namespace Sys2Proof.Machine

open Sys2Proof

/-! ### Sources (R113, R801) -/

theorem gpuIrq_of_timer (s : State) {i : Nat} (h : i < 4) : gpuIrq s i = s.timer.m.getLsbD i := if_pos h

theorem gpuIrq_uart (s : State) : gpuIrq s 57 = ((s.uart.ris &&& s.uart.imsc) != 0#11) := rfl

/-- R801: a source of bank 1 shows when it is high and enabled, or not masked. -/
theorem pendGpu_bankOne (s : State) {i : Nat} (hi : i < 32) :
    pendGpu s i = ((!s.params.pendingMasked || s.intc.en1.getLsbD i) && gpuIrq s i) := by
  rw [pendGpu, gpuEnabled, if_pos hi]

theorem pendGpu_bankTwo (s : State) (i : Nat) :
    pendGpu s (32 + i) = ((!s.params.pendingMasked || s.intc.en2.getLsbD i) && gpuIrq s (32 + i)) := by
  rw [pendGpu, gpuEnabled, if_neg (by omega), Nat.add_sub_cancel_left]

/-- The value of IRQ_PENDING1 (R805). -/
def pendingOne (s : State) : Word := ofBits 32 fun i => pendGpu s i

/-- The value of IRQ_PENDING2 (R806). -/
def pendingTwo (s : State) : Word := ofBits 32 fun i => pendGpu s (32 + i)

theorem getLsbD_pendingOne (s : State) {i : Nat} (hi : i < 32) : (pendingOne s).getLsbD i = pendGpu s i := by
  rw [pendingOne, getLsbD_ofBits, decide_eq_true hi, Bool.true_and]

theorem getLsbD_pendingTwo (s : State) {i : Nat} (hi : i < 32) : (pendingTwo s).getLsbD i = pendGpu s (32 + i) := by
  rw [pendingTwo, getLsbD_ofBits, decide_eq_true hi, Bool.true_and]

theorem execRd32IrqPending1_eq (d : Dest) (s : State) :
    execRd32IrqPending1 d s = .next (deliver d (pendingOne s) (s.retire 1)) := by
  rw [execRd32IrqPending1, readReg_eq, withDraw_all, pendingOne]

theorem execRd32IrqPending2_eq (d : Dest) (s : State) :
    execRd32IrqPending2 d s = .next (deliver d (pendingTwo s) (s.retire 1)) := by
  rw [execRd32IrqPending2, readReg_eq, withDraw_all, pendingTwo]

/-! ### IRQ_BASIC_PENDING (R802) -/

/-- The value of a read of IRQ_BASIC_PENDING (R804). -/
def basicRead (s : State) : Word := withDraw 0x001FFFFF#32 (basicPending s) s

theorem getLsbD_basicRead (s : State) {j : Nat} (hj : j < 21) : (basicRead s).getLsbD j = (basicPending s).getLsbD j :=
  getLsbD_withDraw_of_mask (getLsbD_lowOnes (n := 21) hj (by decide)) _ s

theorem getLsbD_basicRead_arm (s : State) {j : Nat} (hj : j < 8) : (basicRead s).getLsbD j = pendArm s j := by
  rw [getLsbD_basicRead s (by omega), basicPending, getLsbD_ofBits, decide_eq_true (by omega), if_pos hj, Bool.true_and]

/-- Bits 8 and 9: some source of the bank that has no bit of its own. -/
theorem getLsbD_basicRead_banks (s : State) :
    ((basicRead s).getLsbD 8 = true ↔ ∃ i < 32, i ∉ shortcuts ∧ pendGpu s i = true) ∧
    ((basicRead s).getLsbD 9 = true ↔ ∃ i < 32, 32 + i ∉ shortcuts ∧ pendGpu s (32 + i) = true) := by
  rw [getLsbD_basicRead s (by decide), getLsbD_basicRead s (by decide), basicPending, getLsbD_ofBits, getLsbD_ofBits]
  simp only [Nat.reduceLT, decide_true, Bool.true_and, lt_irrefl, if_false, if_true, Nat.reduceEqDiff, List.any_eq_true,
    List.mem_range, Bool.and_eq_true, Bool.not_eq_true', List.contains_eq_mem, decide_eq_false_iff_not, and_self]

/-- Bits 10 to 20, in the order of R802. -/
theorem getLsbD_basicRead_own (s : State) {k : Nat} (hk : k < 11) :
    (basicRead s).getLsbD (10 + k) = pendGpu s (shortcuts.getD k 0) := by
  have hbit : 10 + k < 21 ∧ ¬ 10 + k < 8 ∧ 10 + k ≠ 8 ∧ 10 + k ≠ 9 ∧ 10 + k < 32 := by omega
  obtain ⟨hlt, hnarm, hnone, hntwo, hword⟩ := hbit
  rw [getLsbD_basicRead s hlt, basicPending, getLsbD_ofBits, decide_eq_true hword, Bool.true_and, if_neg hnarm, if_neg hnone,
    if_neg hntwo, if_pos hlt, Nat.add_sub_cancel_left, List.getD_eq_getElem?_getD,
    List.getElem?_eq_getElem (show k < shortcuts.length from hk)]
  rfl

theorem execRd32IrqBasicPending_eq (d : Dest) (s : State) :
    execRd32IrqBasicPending d s = .next (deliver d (basicRead s) (s.retire 1)) := readReg_eq d _ _ s

/-- A masked register of a bank with no enable shows nothing. -/
theorem pending_of_noEnable {s : State} (hmask : s.params.pendingMasked = true) :
    (s.intc.en1 = 0#32 → pendingOne s = 0#32) ∧ (s.intc.en2 = 0#32 → pendingTwo s = 0#32) := by
  constructor
  · intro hen
    refine BitVec.eq_of_getLsbD_eq fun i hi => ?_
    rw [getLsbD_pendingOne s hi, pendGpu_bankOne s hi, hmask, hen, BitVec.getLsbD_zero]
    rfl
  · intro hen
    refine BitVec.eq_of_getLsbD_eq fun i hi => ?_
    rw [getLsbD_pendingTwo s hi, pendGpu_bankTwo, hmask, hen, BitVec.getLsbD_zero]
    rfl

/-- Settles O34: the three values are `pendingOne`, `pendingTwo` and `basicRead`, given bit by bit above. -/
theorem pendingReads : Obligations.PendingReads := by
  refine ⟨fun _ => rfl, fun s => ?_⟩
  intro shows own
  obtain ⟨hbankOne, hbankTwo⟩ := getLsbD_basicRead_banks s
  have bit8 : (basicRead s).getLsbD 8 = true ↔ ∃ i < 32, i ∉ own ∧ (pendingOne s).getLsbD i = true :=
    hbankOne.trans (exists_congr fun i => and_congr_right fun hi => by rw [getLsbD_pendingOne s hi]; rfl)
  have bit9 : (basicRead s).getLsbD 9 = true ↔ ∃ i < 32, 32 + i ∉ own ∧ (pendingTwo s).getLsbD i = true :=
    hbankTwo.trans (exists_congr fun i => and_congr_right fun hi => by rw [getLsbD_pendingTwo s hi]; rfl)
  refine ⟨⟨fun i hi => gpuIrq_of_timer s hi, gpuIrq_uart s⟩, pendingOne s, pendingTwo s, basicRead s,
    fun d => ⟨execRd32IrqPending1_eq d s, execRd32IrqPending2_eq d s, execRd32IrqBasicPending_eq d s⟩, fun i hi => ⟨?_, ?_⟩,
    fun j hj => getLsbD_basicRead_arm s hj, bit8, bit9, fun k hk => ?_, fun k hk => ?_, fun hmask => ⟨fun hen => ?_, fun hen => ?_⟩⟩
  · rw [getLsbD_pendingOne s hi, pendGpu_bankOne s hi]
  · rw [getLsbD_pendingTwo s hi, pendGpu_bankTwo]
  · have inBank : ∀ k < 5, shortcuts.getD k 0 < 32 := by decide
    rw [getLsbD_basicRead_own s (by omega)]
    exact (getLsbD_pendingOne s (inBank k hk)).symm
  · have inBank : ∀ k < 6, shortcuts.getD (5 + k) 0 - 32 < 32 ∧ 32 + (shortcuts.getD (5 + k) 0 - 32) = shortcuts.getD (5 + k) 0 := by
      decide
    obtain ⟨hlt, hsource⟩ := inBank k hk
    rw [show 15 + k = 10 + (5 + k) by omega, getLsbD_basicRead_own s (by omega), ← hsource]
    exact (getLsbD_pendingTwo s hlt).symm
  · have hzero := (pending_of_noEnable hmask).1 hen
    refine ⟨hzero, Bool.eq_false_iff.2 fun hbit => ?_⟩
    obtain ⟨i, _, _, hi⟩ := bit8.1 hbit
    rw [hzero, BitVec.getLsbD_zero] at hi
    cases hi
  · have hzero := (pending_of_noEnable hmask).2 hen
    refine ⟨hzero, Bool.eq_false_iff.2 fun hbit => ?_⟩
    obtain ⟨i, _, _, hi⟩ := bit9.1 hbit
    rw [hzero, BitVec.getLsbD_zero] at hi
    cases hi

/-! ### handle_irq (R870, R873) -/

/-- Channel 1 of the timer shows in IRQ_PENDING1. -/
def timerPending (s : State) : Bool := (!s.params.pendingMasked || s.intc.en1.getLsbD 1) && s.timer.m.getLsbD 1

/-- The UART shows in IRQ_PENDING2. -/
def uartPending (s : State) : Bool :=
  (!s.params.pendingMasked || s.intc.en2.getLsbD 25) && (s.uart.ris &&& s.uart.imsc) != 0#11

theorem getLsbD_pendingOne_timer (s : State) : (pendingOne s).getLsbD 1 = timerPending s := by
  rw [getLsbD_pendingOne s (by decide), pendGpu_bankOne s (by decide), gpuIrq_of_timer s (by decide), timerPending]

theorem getLsbD_pendingTwo_uart (s : State) : (pendingTwo s).getLsbD 25 = uartPending s := by
  rw [getLsbD_pendingTwo s (by decide), pendGpu_bankTwo, gpuIrq_uart, uartPending]

/-- What `handle_irq` calls: the timer's handler, and after it the drain. -/
def serviceTasks (timer uart : Bool) : List Task :=
  (if timer then [.op .timerOnInterrupt] else []) ++ (if uart then [.op .uartDrain] else [])

theorem deliver_irqPending2_eq (p1 p2 : Word) (s : State) :
    deliver (.irqPending2 p1) p2 s = s.push (serviceTasks (p1.getLsbD 1) (p2.getLsbD 25)) := rfl

/-- R870, step by step: the expansion and the three reads; no source of the two calls is a draw. -/
theorem cpuSteps_handleIrq {s : State} {ts : List Task} (h : s.cpu.cont = .op .handleIrq :: ts) :
    cpuSteps 4 s = .next (((State.retire 1)^[3] (s.setCont ts)).push (serviceTasks (timerPending s) (uartPending s))) := by
  calc cpuSteps 4 s
    _ = cpuSteps 3 (s.setCont (.op (.rd32IrqBasicPending .ignore) :: .op (.rd32IrqPending1 .irqPending1) :: ts)) :=
      cpuSteps_succ_of_op 3 h (expandTo_eq _ _)
    _ = cpuSteps 2 ((s.retire 1).setCont (.op (.rd32IrqPending1 .irqPending1) :: ts)) :=
      cpuSteps_succ_of_op 2 rfl (execRd32IrqBasicPending_eq _ _)
    _ = cpuSteps 1 (((State.retire 1)^[2] s).setCont (.op (.rd32IrqPending2 (.irqPending2 (pendingOne ((s.retire 1).setCont ts)))) :: ts)) :=
      cpuSteps_succ_of_op 1 rfl (execRd32IrqPending1_eq _ _)
    _ = .next _ := cpuSteps_succ_of_op 0 rfl (execRd32IrqPending2_eq _ _)
    _ = .next _ := by
      rw [deliver_irqPending2_eq, getLsbD_pendingOne_timer, getLsbD_pendingTwo_uart]
      rfl

/-- Settles O36: the run is `cpuSteps_handleIrq`; a byte goes to the handler that is installed. -/
theorem handlerServesTimerThenUart : Obligations.HandlerServesTimerThenUart := by
  refine ⟨fun _ => rfl, fun s => expandTo_eq _ s, fun s ts hcont => ⟨_, cpuSteps_handleIrq hcont, rfl, rfl, rfl, rfl, rfl, rfl,
    rfl, rfl, rfl⟩, fun s => expandTo_eq _ s, fun s c => ⟨rfl, fun hecho => ?_, fun rows ws htable hrow => ?_⟩, fun h s => wrote_eq _⟩
  · rw [giveResult, hecho]
    rfl
  · simp only [giveResult, htable, handlerTasks, hrow]
    rfl

end Sys2Proof.Machine
end

section
/-! PROOFS. The baud divisor, what the UART operations are replaced by, and the steps of the UART line (45 R926, R927,
R941 to R945, R947, R960 to R964). -/

namespace Sys2Proof.Machine

open Sys2Proof

/-! ### The baud divisor (R926, R927) -/

/-- The divisor below which its integer part is 0: `div64 < 64`. -/
theorem div64_div_eq_zero_iff {b : Nat} (hb : 0 < b) : div64 48000000 b / 64 = 0 ↔ 3023623 ≤ b := by
  have hlt : div64 48000000 b < 64 ↔ 8 * 48000000 + b < 64 * (2 * b) := Nat.div_lt_iff_lt_mul (by omega)
  rw [Nat.div_eq_zero_iff_lt (by decide), hlt]
  omega

/-- Settles O55: the quotient of a natural division lies between its two multiples. -/
theorem divisorIsRoundedToNearest : Obligations.DivisorIsRoundedToNearest :=
  ⟨fun clk b hb => ⟨Nat.mul_div_le (8 * clk + b) (2 * b), Nat.lt_mul_div_succ (8 * clk + b) (by omega)⟩, by decide, by decide,
    fun _ hb => div64_div_eq_zero_iff hb⟩

/-! ### What the transmit and receive operations are replaced by (R941 to R945, R947) -/

theorem putcAll_crlf (bs : List Byte) : putcAll (crlf bs) = bs.flatMap fun b =>
    if b = 0x0A#8 then putcAll [0x0D#8, 0x0A#8] else putcAll [b] := by
  unfold putcAll crlf
  rw [List.map_flatMap]
  congr 1
  funext b
  split <;> rfl

/-- A hexadecimal digit is four bits of the word. -/
theorem toNat_extractLsb'_four (v : Word) (n : Nat) : (v.extractLsb' n 4).toNat = (v >>> n).toNat % 16 := by
  rw [BitVec.extractLsb'_toNat, BitVec.toNat_ushiftRight]

theorem hexChar_eq (n : Nat) : hexChar n = BitVec.ofNat 8 (if n < 10 then 0x30 + n else 0x41 + n - 10) :=
  (apply_ite (BitVec.ofNat 8) _ _ _).symm

theorem hexChars_eq (v : Word) : hexChars v = [7, 6, 5, 4, 3, 2, 1, 0].map fun k =>
    BitVec.ofNat 8 (if (v >>> (4 * k)).toNat % 16 < 10 then 0x30 + (v >>> (4 * k)).toNat % 16
      else 0x41 + (v >>> (4 * k)).toNat % 16 - 10) := by
  simp only [hexChars, hexChar_eq, toNat_extractLsb'_four]

theorem deliver_putcReady (b : Byte) (x : Word) (s : State) : deliver (.putcReady b) x s =
    if x.getLsbD 5 then s.push [.op (.rd32UartFr (.putcReady b))] else s.push [.op (.wr32UartDr (.lit (b.setWidth 32)))] := rfl

theorem deliver_getcReady (r : Ret) (x : Word) (s : State) : deliver (.getcReady r) x s =
    if x.getLsbD 4 then s.push [.op (.rd32UartFr (.getcReady r))] else s.push [.op (.rd32UartDr (.getcByte r))] := rfl

theorem execUartPutc_eq (c : Expr) (s : State) :
    exec (.uartPutc c) s = .next (s.push [.op (.rd32UartFr (.putcReady ((s.eval c).extractLsb' 0 8)))]) := by
  rw [← BitVec.setWidth_eq_extractLsb' (by decide)]
  exact expandTo_eq _ s

/-- Settles O57: each operation's expansion, with the characters that `uart_puts` and `uart_puthex` send written out. -/
theorem uartOperationsExpand : Obligations.UartOperationsExpand := by
  refine ⟨fun _ _ _ => rfl, fun c r s => ⟨execUartPutc_eq c s, fun bs => ?_, rfl, rfl, rfl, ?_,
    fun x b => deliver_putcReady b x s, fun x => deliver_getcReady r x s, fun x => ?_⟩⟩
  · exact congrArg (fun ts => (.next (s.push ts) : Result)) (putcAll_crlf bs)
  · have h : putcAll (hexChars (s.eval c)) = putcAll _ := congrArg putcAll (hexChars_eq (s.eval c))
    exact congrArg (fun ts => (.next (s.push ts) : Result)) (h.trans List.map_map)
  · rw [← BitVec.setWidth_eq_extractLsb' (by decide)]
    rfl

/-! ### A push to the receive FIFO (R961, R962) -/

/-- A bit that a condition raises. -/
theorem getLsbD_raise (v : BitVec 11) {i : Nat} (hi : i < 11) (c : Prop) [Decidable c] (j : Nat) :
    (if c then putBit v i true else v).getLsbD j = (v.getLsbD j || (decide (j = i) && decide c)) := by
  by_cases hc : c
  · rw [if_pos hc, getLsbD_putBit]
    by_cases hj : j = i
    · simp [hj, hi, hc]
    · simp [hj]
  · simp [hc]

theorem getLsbD_pushStatus (u : Uart) (e : RxEntry) (n j : Nat) : (pushStatus u e n).getLsbD j =
    (u.ris.getLsbD j || (decide (j = 4) && decide (u.rxTrig ≤ n)) || (decide (j = 7) && e.fe) ||
      (decide (j = 8) && e.pe) || (decide (j = 9) && e.be)) := by
  unfold pushStatus
  simp only [getLsbD_raise _ (show risFe < 11 by decide), getLsbD_raise _ (show risPe < 11 by decide),
    getLsbD_raise _ (show risBe < 11 by decide), getLsbD_raise _ (show risRx < 11 by decide), Bool.decide_eq_true]
  change (u.ris.getLsbD j || (decide (j = 7) && e.fe) || (decide (j = 8) && e.pe) || (decide (j = 9) && e.be) ||
    (decide (j = 4) && decide (u.rxTrig ≤ n))) = _
  ac_rfl

/-- Only the newest entry is marked. -/
theorem markLast_append_singleton (init : List RxEntry) (last : RxEntry) :
    markLast (init ++ [last]) = init ++ [{ last with oe := true }] := by
  induction init with
  | nil => rfl
  | cons e es ih =>
    rw [List.cons_append, List.cons_append, ← ih]
    cases es <;> rfl

/-- A push with room: the entry is appended and raises its error bits and, at the trigger level, RX. -/
theorem rxPush_of_room {u : Uart} (e : RxEntry) (h : u.rxq.length ≠ u.cap) : (rxPush u e).rxq = u.rxq ++ [e] ∧
    (rxPush u e).rsr = u.rsr ∧ ∀ j < 11, (rxPush u e).ris.getLsbD j =
      (u.ris.getLsbD j || (decide (j = 4) && decide (u.rxTrig ≤ u.rxq.length + 1)) || (decide (j = 7) && e.fe) ||
        (decide (j = 8) && e.pe) || (decide (j = 9) && e.be)) := by
  rw [rxPush, if_neg h]
  exact ⟨rfl, rfl, fun j _ => getLsbD_pushStatus u e _ j⟩

/-- A push to a full FIFO: the entry is lost, the newest one is marked, and OE is raised. -/
theorem rxPush_of_full {u : Uart} (e : RxEntry) {init : List RxEntry} {last : RxEntry} (hq : u.rxq = init ++ [last])
    (h : u.rxq.length = u.cap) : (rxPush u e).rxq = init ++ [{ last with oe := true }] ∧
    (∀ j < 4, (rxPush u e).rsr.getLsbD j = (u.rsr.getLsbD j || decide (j = 3))) ∧
      ∀ j < 11, (rxPush u e).ris.getLsbD j = (u.ris.getLsbD j || decide (j = 10)) := by
  rw [rxPush, if_pos h]
  refine ⟨(congrArg markLast hq).trans (markLast_append_singleton init last), fun j _ => ?_, fun j _ => ?_⟩
  · rw [getLsbD_putBit]
    by_cases hj : j = 3 <;> simp [hj]
  · rw [getLsbD_putBit]
    by_cases hj : j = 10 <;> simp [hj, risOe]

/-! ### The transmit step (R960) -/

theorem uartTxStep_of_off (garbled : List Byte) {s : State}
    (h : s.uart.txq = [] ∨ s.uart.cr.getLsbD 0 = false ∨ s.uart.cr.getLsbD 8 = false) : uartTxStep garbled s = s := by
  unfold uartTxStep
  split
  · rfl
  next b rest hq =>
    refine if_neg fun hon => ?_
    obtain ⟨h0, h8⟩ := Bool.and_eq_true_iff.mp hon
    rcases h with h | h | h
    · cases hq.symm.trans h
    · cases h0.symm.trans h
    · cases h8.symm.trans h

/-- The step once its byte and its enables are known. -/
theorem uartTxStep_of_on (garbled : List Byte) {s : State} {b : Byte} {rest : List Byte} (hq : s.uart.txq = b :: rest)
    (h0 : s.uart.cr.getLsbD 0 = true) (h8 : s.uart.cr.getLsbD 8 = true) : uartTxStep garbled s =
      if s.uart.cr.getLsbD 7 then
        if s.uart.cr.getLsbD 9 then
          s.setUart (rxPush { s.uart with txq := rest } ⟨b, false, false, false, false⟩)
        else s.setUart { s.uart with txq := rest }
      else if lineOkTx s then (s.setUart { s.uart with txq := rest }).setLine { s.line with tx := s.line.tx ++ [b] }
      else (s.setUart { s.uart with txq := rest }).setLine { tx := s.line.tx ++ garbled, garbled := true } := by
  have hon : (s.uart.enabled && s.uart.txEnabled) = true := Bool.and_eq_true_iff.mpr ⟨h0, h8⟩
  unfold uartTxStep
  rw [hq]
  exact if_pos hon

/-- Settles O53: the branches of the step; a byte in loopback is a push to the receive FIFO. -/
theorem transmitStepSendsTheOldestByte : Obligations.TransmitStepSendsTheOldestByte := by
  refine fun s garbled => ⟨uartTxStep_of_off garbled, fun b rest hq h0 h8 => ?_⟩
  have hstep : agentEffect (.uartTx garbled) s = _ := uartTxStep_of_on garbled hq h0 h8
  refine ⟨fun h7 hok => ?_, fun h7 hbad => ?_, fun h7 h9 => ?_, fun h7 h9 => ?_⟩
  · rw [hstep, h7, hok]; rfl
  · rw [hstep, h7, hbad]; rfl
  · rw [hstep, h7, h9]; rfl
  · rw [h7, h9] at hstep
    refine ⟨_, _, _, hstep.trans (congrArg s.setUart (rxPush_eq _ _)), fun hroom => ?_,
      fun init last hlast hfull => rxPush_of_full _ hlast hfull⟩
    obtain ⟨hrxq, hrsr, hris⟩ := rxPush_of_room (u := { s.uart with txq := rest }) ⟨b, false, false, false, false⟩ hroom
    refine ⟨hrxq, hrsr, fun j hj => (hris j hj).trans ?_⟩
    simp only [Bool.and_false, Bool.or_false]
    rfl

/-! ### The receive steps (R961 to R964) -/

/-- What the receive step appends: the peer's byte on a good line, any byte with any errors on a bad one. -/
def receivedEntry (s : State) (good bad : Byte) (fe pe be : Bool) : RxEntry :=
  if lineOkRx s then ⟨good, false, false, false, false⟩ else ⟨bad, fe, pe, be, false⟩

theorem uartRxStep_of_off (good bad : Byte) (fe pe be : Bool) {s : State}
    (h : (s.uart.cr.getLsbD 0 && s.uart.cr.getLsbD 9 && !s.uart.cr.getLsbD 7) = false) :
    uartRxStep good bad fe pe be s = s :=
  if_neg fun hon => Bool.noConfusion (hon.symm.trans h)

theorem uartRxStep_of_on (good bad : Byte) (fe pe be : Bool) {s : State}
    (h : (s.uart.cr.getLsbD 0 && s.uart.cr.getLsbD 9 && !s.uart.cr.getLsbD 7) = true) :
    uartRxStep good bad fe pe be s = (s.setUart (rxPush s.uart (receivedEntry s good bad fe pe be))).setLine
      { s.line with garbled := s.line.garbled || !lineOkRx s } := by
  have hstep : uartRxStep good bad fe pe be s = _ := if_pos h
  rw [hstep, receivedEntry]
  cases lineOkRx s
  · simp
  · simp
    rfl

/-- R963: RT is raised for a waiting byte; raised already, it stays. -/
theorem uartTimeoutStep_spec (s : State) : ∃ r, uartTimeoutStep s = s.setUart { s.uart with ris := r } ∧
    ∀ j < 11, r.getLsbD j = (s.uart.ris.getLsbD j ||
      (decide (j = 6) && (s.uart.cr.getLsbD 0 && s.uart.cr.getLsbD 9) && decide (s.uart.rxq ≠ []))) := by
  unfold uartTimeoutStep
  split
  next h =>
    obtain ⟨hq, _, h0, h9⟩ := h
    refine ⟨_, rfl, fun j _ => ?_⟩
    rw [getLsbD_putBit, show s.uart.cr.getLsbD 0 = true from h0, show s.uart.cr.getLsbD 9 = true from h9]
    by_cases hj : j = 6 <;> simp [hj, hq, risRt]
  next h =>
    refine ⟨s.uart.ris, rfl, fun j _ => ?_⟩
    by_cases hj : j = 6
    · subst hj
      by_cases hrt : s.uart.ris.getLsbD 6 = true
      · rw [hrt, Bool.true_or]
      · rw [Bool.not_eq_true] at hrt
        have hoff : ¬ (s.uart.rxq ≠ [] ∧ s.uart.cr.getLsbD 0 = true ∧ s.uart.cr.getLsbD 9 = true) :=
          fun ⟨hq, h0, h9⟩ => h ⟨hq, hrt, h0, h9⟩
        rw [hrt, Bool.false_or, eq_comm, ← Bool.not_eq_true]
        simpa [and_assoc, and_comm, and_left_comm] using hoff
    · simp [hj]

/-- Settles O54: the receive step is one push and the mark of a bad line; the other three steps change one bit. -/
theorem receiveStepFillsTheFifo : Obligations.ReceiveStepFillsTheFifo := by
  refine fun s good bad fe pe be v c => ⟨uartRxStep_of_off good bad fe pe be, fun hon => ?_, ?_⟩
  · exact ⟨_, _, _, (uartRxStep_of_on good bad fe pe be hon).trans
        (congrArg (fun x => (s.setUart x).setLine _) (rxPush_eq _ _)), rxPush_of_room _,
      fun init last hlast hfull => rxPush_of_full _ hlast hfull⟩
  · obtain ⟨r1, heq, hbits⟩ := uartTimeoutStep_spec s
    refine ⟨r1, _, _, heq, rfl, rfl, fun j hj => ⟨hbits j hj, ?_, ?_⟩⟩ <;> exact getLsbD_putBit s.uart.ris _ _ j

end Sys2Proof.Machine
end

section
/-! PROOFS. The turns of the GPU (42 R640, R642; 43 R712). -/

namespace Sys2Proof.Machine

open Sys2Proof

/-! ### Take (R640 a) -/

theorem gpuTake_of_request {s : State} {w : Word} {ws : List Word} (hidle : s.mbox.gpu = none) (hq : s.mbox.outq = w :: ws) :
    gpuTake s = s.setMbox { s.mbox with gpu := some w, outq := ws } := by
  rw [gpuTake, hidle, hq]

theorem gpuTake_of_busy_or_empty {s : State} (h : s.mbox.gpu ≠ none ∨ s.mbox.outq = []) : gpuTake s = s := by
  unfold gpuTake
  split
  next w ws hidle hq =>
    rcases h with h | h
    · exact absurd hidle h
    · cases hq.symm.trans h
  next => rfl

/-! ### The words of an answer (R640 b, log 16) -/

theorem State.wordAt_congr {s t : State} {a : Nat} (h : ∀ j < 4, t.byteAt (a + j) = s.byteAt (a + j)) :
    t.wordAt a = s.wordAt a := by
  have h0 := h 0 (by decide)
  rw [State.wordAt, State.wordAt, h 3 (by decide), h 2 (by decide), h 1 (by decide), show t.byteAt a = s.byteAt a from h0]

/-- A word that is not listed, or that is no RAM, is left alone: two words of the buffer share no byte. -/
theorem wordAt_gpuWrites_of_unwritten (base : Nat) (words : List (Nat × Word)) {s : State} (hm : s.mem.wf s.params = true)
    {k : Nat} (h : (∀ p ∈ words, p.1 ≠ k) ∨ s.params.periphBase.toNat < base + 4 * k + 4) :
    (gpuWrites base words s).wordAt (base + 4 * k) = s.wordAt (base + 4 * k) := by
  refine State.wordAt_congr fun j hj => byteAt_gpuWrites base words s hm fun w hw _ hram => ?_
  rcases h with hunlisted | houtside
  · have := hunlisted w hw
    omega
  · omega

/-- A word that no later one replaces reads back. -/
theorem wordAt_gpuWrites_cons (base : Nat) (post : List (Nat × Word)) {s : State} (hm : s.mem.wf s.params = true) {k : Nat}
    (v : Word) (hpost : ∀ p ∈ post, p.1 ≠ k) (hk : k < 28) (hram : base + 4 * k + 4 ≤ s.params.periphBase.toNat) :
    (gpuWrites base ((k, v) :: post) s).wordAt (base + 4 * k) = v := by
  have hbound := ram_word_bound hram
  have hput : (s.putWord (base + 4 * k) v).mem.wf (s.putWord (base + 4 * k) v).params = true := by
    rw [State.putWord_params]
    exact State.wf_putWord v hbound hm
  rw [gpuWrites_cons, if_pos ⟨hk, hram⟩, wordAt_gpuWrites_of_unwritten base post hput (.inl hpost),
    State.wordAt_putWord v hbound hm]

/-- The last word listed for an index reads back. -/
theorem wordAt_gpuWrites_of_last (base : Nat) (pre post : List (Nat × Word)) {s : State} (hm : s.mem.wf s.params = true)
    {k : Nat} (v : Word) (hpost : ∀ p ∈ post, p.1 ≠ k) (hk : k < 28)
    (hram : base + 4 * k + 4 ≤ s.params.periphBase.toNat) :
    (gpuWrites base (pre ++ (k, v) :: post) s).wordAt (base + 4 * k) = v := by
  rw [gpuWrites_append]
  refine wordAt_gpuWrites_cons base post ?_ v hpost hk ?_
  · rw [gpuWrites_params]
    exact wf_gpuWrites base pre s hm
  · rwa [gpuWrites_params]

/-! ### Answers and other words (R640 b, R642) -/

theorem gpuMayPush_of_room {s : State} (h : s.mbox.inq.length < s.params.mboxDepth) : gpuMayPush s = true := decide_eq_true h

theorem gpuMayPush_of_full {s : State} (h : s.params.mboxDepth ≤ s.mbox.inq.length) : gpuMayPush s = false :=
  decide_eq_false (Nat.not_lt.mpr h)

theorem gpuRespond_of_taken (words : List (Nat × Word)) (r : Word) {s : State} {w : Word} (hw : s.mbox.gpu = some w)
    (hroom : s.mbox.inq.length < s.params.mboxDepth) : gpuRespond words r s =
      (s.setMem (gpuWrites (bufferOf w) words s).mem).setMbox { s.mbox with inq := s.mbox.inq ++ [r], gpu := none } := by
  rw [gpuRespond, hw]
  simp only [gpuMayPush_of_room hroom, if_true]
  rw [← gpuWrites_eq]

theorem gpuRespond_of_idle_or_full (words : List (Nat × Word)) (r : Word) {s : State}
    (h : s.mbox.gpu = none ∨ s.params.mboxDepth ≤ s.mbox.inq.length) : gpuRespond words r s = s := by
  unfold gpuRespond
  split
  next w hw =>
    rcases h with h | h
    · cases hw.symm.trans h
    · rw [gpuMayPush_of_full h]
      rfl
  next => rfl

theorem gpuSpurious_of_room {r : Word} {s : State} (hch : r.extractLsb' 0 4 ≠ 8#4)
    (hroom : s.mbox.inq.length < s.params.mboxDepth) :
    gpuSpurious r s = s.setMbox { s.mbox with inq := s.mbox.inq ++ [r] } := if_pos ⟨gpuMayPush_of_room hroom, hch⟩

theorem gpuSpurious_of_channel_or_full {r : Word} {s : State}
    (h : r.extractLsb' 0 4 = 8#4 ∨ s.params.mboxDepth ≤ s.mbox.inq.length) : gpuSpurious r s = s := by
  refine if_neg fun ⟨hpush, hch⟩ => ?_
  rcases h with h | h
  · exact hch h
  · cases hpush.symm.trans (gpuMayPush_of_full h)

/-! ### The GPU's channels of the timer (R712) -/

theorem gpuChannel_val (two : Bool) : (gpuChannel two).val = if two then 2 else 0 := by cases two <;> rfl

theorem getElem_set_gpuChannel (cmp : Vector Word 4) (two : Bool) (r : Word) (k : Fin 4) :
    (cmp.set (gpuChannel two) r)[k] = if k.val = (if two then 2 else 0) then r else cmp[k] := by
  rw [← gpuChannel_val]
  exact (getElem_set_compare cmp (gpuChannel two) k r).trans (if_congr Fin.ext_iff rfl rfl)

theorem getLsbD_clear_gpuChannel (m : BitVec 4) (two : Bool) (k : Nat) :
    (putBit m (gpuChannel two).val false).getLsbD k = (decide (k ≠ if two then 2 else 0) && m.getLsbD k) := by
  rw [getLsbD_putBit, gpuChannel_val]
  by_cases hk : k = if two then 2 else 0 <;> simp [hk]

/-- Settles O45: the words of an answer read back because a later one of another index shares no byte with them. -/
theorem gpuTurns : Obligations.GpuTurns := by
  refine fun s words r hm => ⟨fun w ws hidle hq => gpuTake_of_request hidle hq, gpuTake_of_busy_or_empty,
    fun w hw hroom => ?_, gpuRespond_of_idle_or_full words r, gpuSpurious_of_room, gpuSpurious_of_channel_or_full,
    fun two => ⟨_, _, rfl, rfl, getElem_set_gpuChannel s.timer.cmp two r, fun k _ => getLsbD_clear_gpuChannel s.timer.m two k⟩⟩
  refine ⟨_, gpuRespond_of_taken words r hw hroom, wf_gpuWrites _ words s hm, ?_, ?_, ?_⟩ <;> rw [← gpuWrites_eq]
  · exact fun a ha => byteAt_gpuWrites_outside _ words s hm ha
  · rintro pre post k v rfl hpost hk hram
    exact wordAt_gpuWrites_of_last _ pre post hm v hpost hk hram
  · exact fun k hk => wordAt_gpuWrites_of_unwritten _ words hm hk

end Sys2Proof.Machine
end

section
/-! PROOFS. `uart_drain` with the default handler (44 R871; 45 R945), run to its end by the CPU: one round of the loop receives
a byte and echoes it; the rounds are an induction over the receive FIFO. -/

namespace Sys2Proof.Machine

open Sys2Proof

/-- Two runs of the CPU, one after the other. -/
theorem cpuSteps_add (n : Nat) : ∀ {m : Nat} {s t : State}, cpuSteps m s = .next t → cpuSteps (m + n) s = cpuSteps n t
  | 0, s, t, h => by
    cases h
    rw [Nat.zero_add]
  | m + 1, s, t, h => by
    rw [cpuSteps] at h
    split at h <;> [skip; cases h; cases h]
    next u hstep => rw [Nat.add_right_comm, cpuSteps_succ_of_next (m + n) hstep, cpuSteps_add n h]

/-! ### The echo of one byte (R941, R945) -/

/-- R941: with room in the transmit FIFO the flag read of a transmit goes on to its write. -/
theorem execRd32UartFr_putcReady_of_room (b : Byte) {s : State} (h : s.uart.txq.length ≠ s.uart.cap) :
    execRd32UartFr (.putcReady b) s = .next ((s.retire 1).push [.op (.wr32UartDr (.lit (b.setWidth 32)))]) := by
  obtain ⟨x, hread, _, _, txff, _⟩ := execRd32UartFr_flags (.putcReady b) s
  rw [hread, deliver_putcReady, txff.trans (decide_eq_false h)]
  rfl

theorem byte_of_word_of_byte (b : Byte) : (b.setWidth 32).extractLsb' 0 8 = b := by
  rw [← BitVec.setWidth_eq_extractLsb' (by decide), BitVec.setWidth_setWidth_of_le b (by decide), BitVec.setWidth_eq]

/-- The expansions of `echo` and `uart_putc`, the read of UART_FR and the write of UART_DR. -/
theorem cpuSteps_echo {s : State} {b : Byte} {ts : List Task}
    (hcont : s.cpu.cont = .op (.echo (.lit (b.setWidth 32))) :: ts) (hroom : s.uart.txq.length ≠ s.uart.cap) :
    cpuSteps 4 s = .next ((State.retire 1)^[2] ((s.setUart { s.uart with txq := s.uart.txq ++ [b] }).setCont ts)) := by
  have hputc : exec (.uartPutc (.lit (b.setWidth 32))) (s.setCont ts) =
      .next (s.setCont (.op (.rd32UartFr (.putcReady b)) :: ts)) := by
    rw [execUartPutc_eq, State.eval_lit, byte_of_word_of_byte]
    rfl
  have hwrite := execWr32UartDr_of_room (.lit (b.setWidth 32)) (s := (s.retire 1).setCont ts) hroom
  rw [State.eval_lit, byte_of_word_of_byte] at hwrite
  calc cpuSteps 4 s
    _ = cpuSteps 3 (s.setCont (.op (.uartPutc (.lit (b.setWidth 32))) :: ts)) := cpuSteps_succ_of_op 3 hcont (expandTo_eq _ _)
    _ = cpuSteps 2 (s.setCont (.op (.rd32UartFr (.putcReady b)) :: ts)) := cpuSteps_succ_of_op 2 rfl hputc
    _ = cpuSteps 1 ((s.retire 1).setCont (.op (.wr32UartDr (.lit (b.setWidth 32))) :: ts)) :=
      cpuSteps_succ_of_op 1 rfl (execRd32UartFr_putcReady_of_room b hroom)
    _ = .next _ := cpuSteps_succ_of_op 0 rfl hwrite

/-! ### The loop (R871) -/

/-- R871: with the default handler the byte of a receive is echoed before the next receive. -/
theorem giveResult_drain_of_echo {s : State} (h : s.soft.inputHandler = .echo) (b : Byte) :
    giveResult .drain (.optByte (some b)) s = s.push [.op (.echo (.lit (b.setWidth 32))), .op (.uartGetcNb .drain)] := by
  rw [giveResult, h]
  rfl

/-- One round: the oldest byte is received and echoed, and the loop is at its start again. -/
theorem cpuSteps_drainRound {s : State} {ts : List Task} {e : RxEntry} {rest : List RxEntry}
    (hcont : s.cpu.cont = .op (.uartGetcNb .drain) :: ts) (hecho : s.soft.inputHandler = .echo)
    (hq : s.uart.rxq = e :: rest) (hroom : s.uart.txq.length ≠ s.uart.cap) : cpuSteps 7 s =
      .next ((State.retire 1)^[4] ((s.setUart { popRx s.uart e rest with txq := s.uart.txq ++ [e.data] }).setCont
        (.op (.uartGetcNb .drain) :: ts))) := by
  have hreceive := cpuSteps_uartGetcNb_of_cons hcont hq
  rw [giveResult_drain_of_echo (by exact hecho)] at hreceive
  calc cpuSteps 7 s
    _ = cpuSteps 4 _ := cpuSteps_add 4 hreceive
    _ = .next _ := cpuSteps_echo rfl hroom

/-- `t` is what a drain makes of `s`: every received byte echoed, and the continuation `ts` still to run. -/
def Drained (s t : State) (ts : List Task) : Prop :=
  t.cpu.cont = ts ∧ t.uart.rxq = [] ∧ t.uart.txq = s.uart.txq ++ s.uart.rxq.map RxEntry.data ∧ t.line = s.line ∧
    t.timer = s.timer ∧ t.gpio = s.gpio ∧ t.mbox = s.mbox ∧ t.intc = s.intc ∧ t.mem = s.mem

/-- The loop empties a receive FIFO of any length for which the transmit FIFO has room. -/
theorem cpuSteps_drainLoop (ts : List Task) : ∀ (q : List RxEntry) {s : State}, s.uart.rxq = q →
    s.cpu.cont = .op (.uartGetcNb .drain) :: ts → s.soft.inputHandler = .echo →
    s.uart.txq.length + q.length ≤ s.uart.cap → ∃ n t, cpuSteps n s = .next t ∧ Drained s t ts
  | [], s, hq, hcont, _, _ => by
    refine ⟨2, _, cpuSteps_uartGetcNb_of_nil hcont hq, rfl, hq, ?_, rfl, rfl, rfl, rfl, rfl, rfl⟩
    rw [hq, List.map_nil, List.append_nil]
    rfl
  | e :: rest, s, hq, hcont, hecho, hroom => by
    rw [List.length_cons] at hroom
    have hround := cpuSteps_drainRound hcont hecho hq (by omega)
    have hroom' : (s.uart.txq ++ [e.data]).length + rest.length ≤ s.uart.cap := by
      rw [List.length_append, List.length_singleton]
      omega
    obtain ⟨n, t, hrun, hts, hrxq, htxq, hframe⟩ := cpuSteps_drainLoop ts rest (s := (State.retire 1)^[4] ((s.setUart
      { popRx s.uart e rest with txq := s.uart.txq ++ [e.data] }).setCont (.op (.uartGetcNb .drain) :: ts)))
      rfl rfl hecho hroom'
    refine ⟨7 + n, t, (cpuSteps_add n hround).trans hrun, hts, hrxq, htxq.trans ?_, hframe⟩
    rw [hq]
    exact List.append_assoc s.uart.txq [e.data] (rest.map RxEntry.data)

/-- Settles O60: the drain's own step, then the loop over the receive FIFO. -/
theorem drainEchoesEveryByteInOrder : Obligations.DrainEchoesEveryByteInOrder := by
  intro s ts hcont hecho hroom
  have hstart : cpuSteps 1 s = .next (s.setCont (.op (.uartGetcNb .drain) :: ts)) :=
    cpuSteps_succ_of_op 0 hcont (expandTo_eq _ _)
  obtain ⟨n, t, hrun, hdrained⟩ := cpuSteps_drainLoop ts s.uart.rxq
    (s := s.setCont (.op (.uartGetcNb .drain) :: ts)) rfl rfl hecho hroom
  exact ⟨1 + n, t, (cpuSteps_add n hstart).trans hrun, hdrained⟩

end Sys2Proof.Machine
end

section
/-! PROOFS. The end of `mbox_call` (42 R650; 30 R323; 20 R230): the reply, then the words of the buffer, one LDW each. -/

namespace Sys2Proof.Machine

open Sys2Proof

/-! ### The reply -/

theorem deliver_mboxReply_of_otherChannel (r : Ret) {w : Word} (s : State) (h : w.extractLsb' 0 4 ≠ 8#4) :
    deliver (.mboxReply r) w s = s.push [.op (.rd32Mbox0Status (.mboxInStatus r))] := if_pos h

theorem deliver_mboxReply_of_noEcho (r : Ret) {w : Word} (s : State) (hch : w.extractLsb' 0 4 = 8#4)
    (h : w ≠ requestWord s.params) : deliver (.mboxReply r) w s = giveResult r .mboxFailed s :=
  (if_neg (not_not_intro hch)).trans (if_pos h)

theorem deliver_mboxReply_of_echo (r : Ret) {w : Word} (s : State) (hch : w.extractLsb' 0 4 = 8#4)
    (h : w = requestWord s.params) : deliver (.mboxReply r) w s = s.push [ldMboxWord s.params 1 (.mboxCode r)] :=
  (if_neg (not_not_intro hch)).trans (if_neg (not_not_intro h))

/-- R313: the request is a word of the property channel. -/
theorem requestWord_channel (p : Config.Params) : (requestWord p).extractLsb' 0 4 = 8#4 := by
  rw [requestWord_eq]
  refine BitVec.eq_of_getLsbD_eq fun j hj => ?_
  have hmask : (0xFFFFFFF0#32).getLsbD j = false := by interval_cases j <;> rfl
  have hchan : (8#32).getLsbD j = (8#4).getLsbD j := by interval_cases j <;> rfl
  simp only [BitVec.getLsbD_extractLsb', Nat.zero_add, BitVec.getLsbD_or, BitVec.getLsbD_and, hmask, hchan, hj, decide_true,
    Bool.true_and, Bool.and_false, Bool.false_or]

/-! ### A run that changes the continuation alone -/

/-- `s` with the continuation `c`, after `n` CPU steps that changed nothing else. -/
def State.after (n : Nat) (c : List Task) (s : State) : State := (State.retire 1)^[n] (s.setCont c)

theorem State.after_succ (n : Nat) (c : List Task) (s : State) : s.after (n + 1) c = (s.after n c).retire 1 :=
  Function.iterate_succ_apply' _ _ _

/-- Time apart, `s.after n c` is `s` with the continuation `c`. -/
theorem State.after_eq (n : Nat) (s : State) : ∃ cyc draws, ∀ c, s.after n c = ((s.setCont c).setCyc cyc).setDraws draws := by
  induction n with
  | zero => exact ⟨s.cyc, s.draws, fun c => rfl⟩
  | succ n ih =>
    obtain ⟨cyc, draws, hn⟩ := ih
    refine ⟨cyc + (max 1 1 + Config.extraCycles draws), draws + 1, fun c => ?_⟩
    rw [State.after_succ, hn c]
    rfl

theorem State.after_frame (n : Nat) (c : List Task) (s : State) : (s.after n c).soft = s.soft ∧
    (s.after n c).cpu = { s.cpu with cont := c } ∧ (s.after n c).mbox = s.mbox ∧ (s.after n c).gpio = s.gpio ∧
    (s.after n c).timer = s.timer ∧ (s.after n c).intc = s.intc ∧ (s.after n c).uart = s.uart ∧
    (s.after n c).line = s.line ∧ (s.after n c).mem = s.mem := by
  obtain ⟨cyc, draws, h⟩ := State.after_eq n s
  rw [h c]
  exact ⟨rfl, rfl, rfl, rfl, rfl, rfl, rfl, rfl, rfl⟩

theorem State.after_params (n : Nat) (c : List Task) (s : State) : (s.after n c).params = s.params := by
  obtain ⟨cyc, draws, h⟩ := State.after_eq n s
  rw [h c]
  rfl

theorem State.after_cont (n : Nat) (c : List Task) (s : State) : (s.after n c).cpu.cont = c := by
  obtain ⟨cyc, draws, h⟩ := State.after_eq n s
  rw [h c]
  rfl

theorem State.setCont_after (n : Nat) (c c' : List Task) (s : State) : (s.after n c).setCont c' = s.after n c' := by
  obtain ⟨cyc, draws, h⟩ := State.after_eq n s
  rw [h c, h c']
  rfl

theorem State.setSoft_after (n : Nat) (c : List Task) (x : Soft) (s : State) :
    (s.after n c).setSoft x = (s.setSoft x).after n c := by
  induction n with
  | zero => rfl
  | succ n ih =>
    rw [State.after_succ, State.after_succ, ← ih]
    rfl

theorem State.push_after (n : Nat) (c c' : List Task) (s : State) : (s.after n c).push c' = s.after n (c' ++ c) := by
  rw [State.push, State.after_cont, State.setCont_after]

theorem giveResult_after (x n : Nat) (v : Value) (c : List Task) (s : State) :
    giveResult (.loc x) v (s.after n c) = s.after n (bindScope x v c) := by
  rw [giveResult, State.after_cont, State.setCont_after]

/-! ### The words of the buffer -/

/-- Word `k` of the buffer. -/
def State.mboxWord (s : State) (k : Nat) : Word := s.wordAt (s.params.mboxBuf.toNat + 4 * k)

theorem State.mboxWord_after (n k : Nat) (c : List Task) (s : State) : (s.after n c).mboxWord k = s.mboxWord k := by
  obtain ⟨cyc, draws, h⟩ := State.after_eq n s
  rw [h c]
  rfl

/-- The buffer is aligned and below the peripheral window (10 R20). -/
def BufferInRam (p : Config.Params) : Prop := p.mboxBuf.toNat % 16 = 0 ∧ p.mboxBuf.toNat + 112 ≤ p.periphBase.toNat

theorem BufferInRam.address {p : Config.Params} (h : BufferInRam p) {k : Nat} (hk : k < 28) :
    (p.mboxBuf + BitVec.ofNat 32 (4 * k)).toNat = p.mboxBuf.toNat + 4 * k := by
  obtain ⟨_, hend⟩ := h
  have := p.periphBase.isLt
  rw [BitVec.toNat_add, BitVec.toNat_ofNat]
  omega

/-- An LDW of a word of the buffer gives that word. -/
theorem exec_ldMboxWord {s : State} (h : BufferInRam s.params) {k : Nat} (hk : k < 28) (d : Dest) :
    exec (.ldw (.lit (s.params.mboxBuf + BitVec.ofNat 32 (4 * k))) d) s = .next (deliver d (s.mboxWord k) (s.retire 1)) := by
  have haddr : (s.eval (.lit (s.params.mboxBuf + BitVec.ofNat 32 (4 * k)))).toNat = s.params.mboxBuf.toNat + 4 * k := by
    rw [State.eval_lit, h.address hk]
  obtain ⟨halign, hend⟩ := h
  have hram : ramFault s (s.params.mboxBuf.toNat + 4 * k) = none := ramFault_none.mpr (by omega)
  have hload := execLdw_of_ram (haddr ▸ hram) d
  rwa [haddr] at hload

/-- The CPU step of an LDW of word `k`: the word arrives at `d`. -/
theorem cpuSteps_ldMboxWord (n j : Nat) {s : State} (h : BufferInRam s.params) {k : Nat} (hk : k < 28) (d : Dest)
    (ts : List Task) : cpuSteps (n + 1) (s.after j (ldMboxWord s.params k d :: ts)) =
      cpuSteps n (deliver d (s.mboxWord k) (s.after (j + 1) ts)) := by
  have hexec := exec_ldMboxWord (s := s.after j ts) (by rwa [State.after_params]) hk d
  rw [State.after_params, State.mboxWord_after, ← State.after_succ] at hexec
  refine cpuSteps_succ_of_op n (State.after_cont _ _ _) ?_
  rw [State.setCont_after]
  exact hexec

/-! ### What each word decides (R650, R323) -/

/-- An arrival that reads another word. -/
theorem push_ldMboxWord (j k : Nat) (d : Dest) (ts : List Task) (s : State) :
    (s.after j ts).push [ldMboxWord (s.after j ts).params k d] = s.after j (ldMboxWord s.params k d :: ts) := by
  rw [State.push_after, State.after_params, List.singleton_append]

theorem deliver_mboxCode_of_failure (r : Ret) {v : Word} (s : State) (h : v ≠ 0x80000000#32) :
    deliver (.mboxCode r) v s = giveResult r .mboxFailed s := if_pos h

theorem deliver_mboxCode_of_success (r : Ret) {v : Word} (s : State) (h : v = 0x80000000#32) :
    deliver (.mboxCode r) v s = s.push [ldMboxWord s.params 19 (.mboxBase r)] := if_neg (not_not_intro h)

theorem deliver_mboxBase_of_zero (r : Ret) {v : Word} (s : State) (h : v = 0#32) :
    deliver (.mboxBase r) v s = giveResult r .mboxFailed s := if_pos h

theorem deliver_mboxBase_of_ne (r : Ret) {v : Word} (s : State) (h : v ≠ 0#32) :
    deliver (.mboxBase r) v s = s.push [ldMboxWord s.params 5 (.mboxWidth r v)] := if_neg h

/-- The step of the last LDW sets the surface and returns it (log 9). -/
theorem deliver_mboxPitch_after (x j : Nat) (base width height size v : Word) (ts : List Task) (s : State) :
    deliver (.mboxPitch (.loc x) base width height size) v (s.after j ts) =
      (s.setSoft { s.soft with surface := some (mboxSurface base width height size v) }).after j
        (bindScope x (.mboxOk (mboxSurface base width height size v)) ts) := by
  obtain ⟨hsoft, _⟩ := State.after_frame j ts s
  rw [deliver, hsoft, State.setSoft_after, giveResult_after]

/-! ### The runs, from the state in which the echo of the request was taken -/

section
variable {s : State} (h : BufferInRam s.params) (x j : Nat) (ts : List Task)
include h

/-- The answer's code is no success: the call fails. -/
theorem cpuSteps_mboxCode_of_failure (hcode : s.mboxWord 1 ≠ 0x80000000#32) :
    cpuSteps 1 (s.after j (ldMboxWord s.params 1 (.mboxCode (.loc x)) :: ts)) =
      .next (s.after (j + 1) (bindScope x .mboxFailed ts)) := by
  rw [cpuSteps_ldMboxWord 0 j h (by decide), deliver_mboxCode_of_failure _ _ hcode, giveResult_after, cpuSteps]

/-- With the success code the base is read next. -/
theorem cpuSteps_mboxCode_of_success (n : Nat) (hcode : s.mboxWord 1 = 0x80000000#32) :
    cpuSteps (n + 1) (s.after j (ldMboxWord s.params 1 (.mboxCode (.loc x)) :: ts)) =
      cpuSteps n (s.after (j + 1) (ldMboxWord s.params 19 (.mboxBase (.loc x)) :: ts)) := by
  rw [cpuSteps_ldMboxWord n j h (by decide), deliver_mboxCode_of_success _ _ hcode, push_ldMboxWord]

/-- The base is 0: the call fails. -/
theorem cpuSteps_mboxBase_of_zero (hbase : s.mboxWord 19 = 0#32) :
    cpuSteps 1 (s.after j (ldMboxWord s.params 19 (.mboxBase (.loc x)) :: ts)) =
      .next (s.after (j + 1) (bindScope x .mboxFailed ts)) := by
  rw [cpuSteps_ldMboxWord 0 j h (by decide), deliver_mboxBase_of_zero _ _ hbase, giveResult_after, cpuSteps]

/-- With another base the width is read next. -/
theorem cpuSteps_mboxBase_of_ne (n : Nat) (hbase : s.mboxWord 19 ≠ 0#32) :
    cpuSteps (n + 1) (s.after j (ldMboxWord s.params 19 (.mboxBase (.loc x)) :: ts)) =
      cpuSteps n (s.after (j + 1) (ldMboxWord s.params 5 (.mboxWidth (.loc x) (s.mboxWord 19)) :: ts)) := by
  rw [cpuSteps_ldMboxWord n j h (by decide), deliver_mboxBase_of_ne _ _ hbase, push_ldMboxWord]

end

/-- The surface that the words of the buffer give. -/
def State.bufferSurface (s : State) : DisplaySurface :=
  mboxSurface (s.mboxWord 19) (s.mboxWord 5) (s.mboxWord 6) (s.mboxWord 20) (s.mboxWord 24)

/-- `s` with its buffer's surface set. -/
def State.setBufferSurface (s : State) : State := s.setSoft { s.soft with surface := some s.bufferSurface }

/-- The last four words of a good answer. -/
theorem cpuSteps_mboxWidth {s : State} (h : BufferInRam s.params) (x j : Nat) (ts : List Task) :
    cpuSteps 4 (s.after j (ldMboxWord s.params 5 (.mboxWidth (.loc x) (s.mboxWord 19)) :: ts)) =
      .next (s.setBufferSurface.after (j + 4) (bindScope x (.mboxOk s.bufferSurface) ts)) := by
  rw [cpuSteps_ldMboxWord 3 j h (by decide), deliver, push_ldMboxWord, cpuSteps_ldMboxWord 2 _ h (by decide), deliver,
    push_ldMboxWord, cpuSteps_ldMboxWord 1 _ h (by decide), deliver, push_ldMboxWord, cpuSteps_ldMboxWord 0 _ h (by decide),
    deliver_mboxPitch_after, cpuSteps]
  rfl

/-! ### The call from the step that takes the reply -/

/-- `s` without the head of the inbound FIFO. -/
def State.popMbox (s : State) (ws : List Word) : State := s.setMbox { s.mbox with inq := ws }

section
variable {s : State} {x : Nat} {ts : List Task} {w : Word} {ws : List Word}
  (hcont : s.cpu.cont = .op (.rd32Mbox0Read (.mboxReply (.loc x))) :: ts)
include hcont

theorem cpuSteps_mboxReply (n : Nat) (hq : s.mbox.inq = w :: ws) :
    cpuSteps (n + 1) s = cpuSteps n (deliver (.mboxReply (.loc x)) w ((s.popMbox ws).after 1 ts)) :=
  cpuSteps_succ_of_op n hcont (execRd32Mbox0Read_of_cons (s := s.setCont ts) _ hq)

/-- What the step does by the word that it takes. -/
theorem cpuSteps_mboxReply_cases (hq : s.mbox.inq = w :: ws) : cpuSteps 1 s = .next ((s.popMbox ws).after 1
    (if w.extractLsb' 0 4 ≠ 8#4 then .op (.rd32Mbox0Status (.mboxInStatus (.loc x))) :: ts
      else if w ≠ requestWord s.params then bindScope x .mboxFailed ts
      else ldMboxWord s.params 1 (.mboxCode (.loc x)) :: ts)) := by
  have hparams : ((s.popMbox ws).after 1 ts).params = s.params := State.after_params 1 ts (s.popMbox ws)
  rw [cpuSteps_mboxReply hcont 0 hq, cpuSteps]
  by_cases hch : w.extractLsb' 0 4 = 8#4
  · by_cases hw : w = requestWord s.params
    · rw [deliver_mboxReply_of_echo _ _ hch (by rwa [hparams]), if_neg (not_not_intro hch), if_neg (not_not_intro hw),
        push_ldMboxWord]
      rfl
    · rw [deliver_mboxReply_of_noEcho _ _ hch (by rwa [hparams]), if_neg (not_not_intro hch), if_pos hw, giveResult_after]
  · rw [deliver_mboxReply_of_otherChannel _ _ hch, if_pos hch, State.push_after, List.singleton_append]

theorem cpuSteps_mboxReply_of_echo (n : Nat) (hq : s.mbox.inq = requestWord s.params :: ws) : cpuSteps (n + 1) s =
    cpuSteps n ((s.popMbox ws).after 1 (ldMboxWord s.params 1 (.mboxCode (.loc x)) :: ts)) := by
  have hstep := cpuSteps_mboxReply_cases hcont hq
  rw [if_neg (not_not_intro (requestWord_channel s.params)), if_neg (not_not_intro rfl)] at hstep
  rw [Nat.add_comm, cpuSteps_add n hstep]

/-- A code that is no success ends the call in its second step, a base of 0 in its third. -/
theorem cpuSteps_mboxFailed (h : BufferInRam s.params) (hq : s.mbox.inq = requestWord s.params :: ws)
    (hbad : s.mboxWord 1 ≠ 0x80000000#32 ∨ s.mboxWord 19 = 0#32) :
    ∃ k, cpuSteps (if s.mboxWord 1 ≠ 0x80000000#32 then 2 else 3) s =
      .next ((s.popMbox ws).after k (bindScope x .mboxFailed ts)) := by
  have hpop : BufferInRam (s.popMbox ws).params := h
  by_cases hcode : s.mboxWord 1 = 0x80000000#32
  · have hbase : (s.popMbox ws).mboxWord 19 = 0#32 := hbad.resolve_left (not_not_intro hcode)
    rw [if_neg (not_not_intro hcode), cpuSteps_mboxReply_of_echo hcont 2 hq]
    exact ⟨3, (cpuSteps_mboxCode_of_success hpop x 1 ts 1 hcode).trans (cpuSteps_mboxBase_of_zero hpop x 2 ts hbase)⟩
  · rw [if_pos hcode, cpuSteps_mboxReply_of_echo hcont 1 hq]
    exact ⟨2, cpuSteps_mboxCode_of_failure hpop x 1 ts hcode⟩

/-- The exchange that succeeds, in seven CPU steps. -/
theorem cpuSteps_mboxOk (h : BufferInRam s.params) (hq : s.mbox.inq = requestWord s.params :: ws)
    (hcode : s.mboxWord 1 = 0x80000000#32) (hbase : s.mboxWord 19 ≠ 0#32) :
    cpuSteps 7 s = .next ((s.popMbox ws).setBufferSurface.after 7 (bindScope x (.mboxOk s.bufferSurface) ts)) := by
  have hpop : BufferInRam (s.popMbox ws).params := h
  rw [cpuSteps_mboxReply_of_echo hcont 6 hq]
  exact (cpuSteps_mboxCode_of_success hpop x 1 ts 5 hcode).trans
    ((cpuSteps_mboxBase_of_ne hpop x 2 ts 4 hbase).trans (cpuSteps_mboxWidth hpop x 3 ts))

end

/-- Settles O44: the reply's step, then the two ways in which the call ends; a run changes only the continuation and, in the
good one, the surface. -/
theorem mailboxExchangeGivesTheSurface : Obligations.MailboxExchangeGivesTheSurface := by
  refine fun x s ts w ws hcont hq => ⟨?_, fun halign hend hw hbad => ?_, fun halign hend hw hcode hbase => ?_⟩
  · obtain ⟨hsoft, hcpu, hmbox, _, _, _, _, _, hmem⟩ := State.after_frame 1 _ (s.popMbox ws)
    exact ⟨_, cpuSteps_mboxReply_cases hcont hq, hmbox, hsoft, hmem, congrArg Cpu.cont hcpu⟩
  · obtain ⟨k, hrun⟩ := cpuSteps_mboxFailed hcont ⟨halign, hend⟩ (hq.trans (congrArg (· :: ws) hw)) hbad
    exact ⟨_, hrun, State.after_frame k _ _⟩
  · exact ⟨_, cpuSteps_mboxOk hcont ⟨halign, hend⟩ (hq.trans (congrArg (· :: ws) hw)) hcode hbase, State.after_frame 7 _ _⟩

end Sys2Proof.Machine
end
